-- ==== Sys2Proof/Word.lean ====
section
/-! DEFINITION. The word types of the block: 32-bit register data and 8-bit bytes (00_scope R9, R11). -/

namespace Sys2Proof

/-- The data width of every register, operand and result: the source's u32 (00_scope R9). -/
abbrev Word := BitVec 32

/-- A byte: the width of TICK_PERIOD (10_state R23) and of one byte of a bus word (20_memory R63). -/
abbrev Byte := BitVec 8

end Sys2Proof
end

