-- ==== Sys2Proof/Syntax.lean ====
section
/-! DEFINITION. The commands of the block (30_encoding R93, R97), the registers and accesses of its window
(20_memory R62, R64), the turns of its agents (00_scope R6, R7), and program lines (30_encoding R99, R100). -/

namespace Sys2Proof

/-- The ten commands, one constructor per row of the opcode table. A command word carries no operand but the mode,
which tells KEY_READ and KEY_READ.C apart (30_encoding R95, R97); the operands are read from ARG0 to ARG2 (R94). -/
inductive Instr where
  /-- INIT: configure the clock (40_clock R123). -/
  | init
  /-- NOW_MS: read the time in milliseconds (40_clock R127). -/
  | nowMs
  /-- NOW_US: read the time in microseconds (40_clock R128). -/
  | nowUs
  /-- SAMPLE: read the pair (ELAPSED, CVR) atomically (40_clock R129). -/
  | sample
  /-- DELAY_MS: wait in millisecond readings (41_delay R151). -/
  | delayMs
  /-- DELAY_US: wait in microsecond readings (41_delay R152). -/
  | delayUs
  /-- ENCODE: pack a priority field (42_priority_codec R172). -/
  | encode
  /-- DECODE: split a priority field (42_priority_codec R173). -/
  | decode
  /-- KEY_READ: poll a key, one-shot mode (43_debounce R195). -/
  | keyRead
  /-- KEY_READ.C: poll a key, continuous mode (43_debounce R195). -/
  | keyReadC
  deriving DecidableEq, Repr

/-- The sixteen registers of the window (20_memory R62). -/
inductive Reg where
  | cmd | arg0 | arg1 | arg2 | res0 | res1 | status | elapsed
  | cvr | reload | usPerUnit | msPerUnit | tickPeriod | latch | pins | param
  deriving DecidableEq, Repr

/-- The width of a bus access (20_memory R64). -/
inductive AccessSize where
  | byte | half | word
  deriving DecidableEq, Repr

/-- One bus access of the Host at a byte address of its own address space (20_memory R60, R65, R66). -/
inductive Access where
  | read (addr : Nat) (size : AccessSize)
  | write (addr : Nat) (size : AccessSize) (data : Word)
  deriving DecidableEq, Repr

/-- One line of the Host's own program: a bus access, or POLL, which reads STATUS until its bit 0 is 0
(30_encoding R99, R100). -/
inductive HostLine where
  | access (a : Access)
  | poll
  deriving DecidableEq, Repr

/-- One step's event, which is that of one agent (00_scope R6, R7): the Host, the TickSource, the PinEnv or the
platform. -/
inductive Turn where
  /-- The Host makes an access, or a STATUS read of a POLL. -/
  | host (l : HostLine)
  /-- A COUNT event (40_clock R131). -/
  | count
  /-- The PinEnv sets PIN_LEVEL[key] (43_debounce R191). -/
  | pin (key : Nat) (level : Bool)
  /-- RESET (70_reset R250). -/
  | reset
  deriving DecidableEq, Repr

/-- One line of the run still to come: an access or POLL of the Host, or an event of another agent
(30_encoding R99, R100). -/
inductive Line where
  /-- A bus access or POLL. -/
  | host (l : HostLine)
  /-- COUNT (more + 1): that many COUNT events in a row. -/
  | count (more : Nat)
  /-- PIN key, level. -/
  | pin (key : Nat) (level : Bool)
  /-- RESET. -/
  | reset
  deriving DecidableEq, Repr

/-- The pseudo-instructions of 30_encoding R100, with their operands. -/
inductive Pseudo where
  | init (b p s : Word)
  | nowMs
  | nowUs
  | sample
  | delayMs (n : Word)
  | delayUs (n : Word)
  | encode (g p s : Word)
  | decode (g r : Word)
  | keyRead (k : Word)
  | keyReadC (k : Word)
  | poll
  deriving DecidableEq, Repr

/-- One line of a host program as the spec writes it (30_encoding R99), or a pseudo-instruction (R100). -/
inductive ProgLine where
  | wr (r : Reg) (value : Word)
  | rd (r : Reg)
  | count (n : Nat)
  | pin (key : Nat) (level : Bool)
  | reset
  | pseudo (p : Pseudo)
  deriving DecidableEq, Repr

end Sys2Proof
end

