-- ==== Sys2Proof/Config.lean ====
section
/-! DEFINITION. The implementation parameters of 00_scope R9, the debounce interval, and the free values. -/

namespace Sys2Proof

/-- The parameters a block takes (00_scope R9). They are fixed for the life of a block; no step changes them.
State carries them as plain data (log 6), so every claim about all states is a claim about all parameters. -/
structure Params where
  /-- W, COUNTER_WIDTH: the width in bits of CVR and RELOAD, 1 to 32. -/
  counterWidth : Nat
  /-- N, PRIO_BITS: the width in bits of the hardware priority field, 0 to 8. -/
  prioBits : Nat
  /-- K, NUM_KEYS: the number of logical keys, 1 to 32. -/
  numKeys : Nat
  /-- ACTIVE_LEVEL[k] for k in 1..K, in bit k - 1 (log 10). -/
  activeLevel : Word
  /-- BASE: the byte address of the register window, a multiple of 0x40 (20_memory R60). -/
  base : Nat
  deriving DecidableEq, Repr

/-- The defaults of 00_scope R9. BASE is OPEN there; 0 is the model's own (DESIGN CHOICE, log 6). -/
def Params.default : Params :=
  { counterWidth := 24, prioBits := 4, numKeys := 2, activeLevel := 0#32, base := 0 }

/-- DEBOUNCE_MS, the debounce hold interval in milliseconds: 10, normative (00_scope R9, R10). -/
def Config.debounceMs : Word := 10#32

/-- FREE VALUE. The raw pin levels when an execution starts: any value, a draw (10_state R37, 70_reset R251; log 7). -/
opaque Config.initialPins : Word

/-- FREE VALUE. What the outside world does once a program's run is over: the n-th round of events, as the lines before
and the lines after one COUNT event (00_scope R7, R8, 70_reset R281; log 2). -/
opaque Config.freeRound : Nat → List Line × List Line

/-- FREE VALUE. What a division by zero gives, which 00_scope R12 leaves undefined. No run reaches one (log 8). -/
opaque Config.divByZero : Word → Word

end Sys2Proof
end

