-- ==== Sys2Proof/WellFormed.lean ====
section
/-! DEFINITION. The checks on syntax: parameters in range (00_scope R9), commands, program lines (43_debounce R191). -/

namespace Sys2Proof

/-- The ranges of 00_scope R9, and BASE a multiple of 0x40 (20_memory R60). -/
def Params.wf (p : Params) : Bool :=
  decide (1 ≤ p.counterWidth) && decide (p.counterWidth ≤ 32)
    && decide (p.prioBits ≤ 8)
    && decide (1 ≤ p.numKeys) && decide (p.numKeys ≤ 32)
    && decide (p.base % 64 = 0)

/-- A command carries no field that could be out of range (30_encoding R95), so each of the ten is well formed. -/
def Instr.wf : Instr → Bool
  | .init | .nowMs | .nowUs | .sample | .delayMs | .delayUs
  | .encode | .decode | .keyRead | .keyReadC => true

/-- The PinEnv changes the pin of a key in 1..K only (43_debounce R191). -/
def Line.wf (p : Params) : Line → Bool
  | .host _ | .count _ | .reset => true
  | .pin k _ => decide (1 ≤ k) && decide (k ≤ p.numKeys)

/-- A program line is well formed when its PIN line names a key in 1..K (30_encoding R99, 43_debounce R191). -/
def ProgLine.wf (p : Params) : ProgLine → Bool
  | .wr _ _ | .rd _ | .count _ | .reset | .pseudo _ => true
  | .pin k _ => decide (1 ≤ k) && decide (k ≤ p.numKeys)

end Sys2Proof
end

