-- ==== Sys2Proof/Decode.lean ====
section
/-! DEFINITION. The command word: decoding, total on all 2^32 words (30_encoding R90 to R98), the encoder written from
the table of R97, and the byte order of a bus word (20_memory R63). -/

namespace Sys2Proof

/-- Why a word spells no command: the names are those of the error codes it completes with (30_encoding R98). -/
inductive DecodeError where
  /-- OP is not in the opcode map. -/
  | illegalOp
  /-- RSV is not 0, or MODE is 1 on a command other than KEY_READ. -/
  | reservedBits
  deriving DecidableEq, Repr

/-- OP, bits 7:0 (30_encoding R90). -/
def opField (v : Word) : Byte := v.extractLsb' 0 8

/-- MODE, bit 8 (30_encoding R90). -/
def modeBit (v : Word) : Bool := v.getLsbD 8

/-- RSV, bits 31:9 (30_encoding R90). -/
def rsvField (v : Word) : BitVec 23 := v.extractLsb' 9 23

/-- The opcode map, each OP with the command MODE = 0 selects (30_encoding R93). -/
def instrOfOp (op : Byte) : Option Instr :=
  match op.toNat with
  | 0x01 => some .init
  | 0x02 => some .nowMs
  | 0x03 => some .nowUs
  | 0x04 => some .sample
  | 0x05 => some .delayMs
  | 0x06 => some .delayUs
  | 0x07 => some .encode
  | 0x08 => some .decode
  | 0x09 => some .keyRead
  | _ => none

/-- What MODE = 1 makes of a command: only KEY_READ has a continuous form (30_encoding R90, R98). -/
def continuousForm : Instr → Option Instr
  | .keyRead | .keyReadC => some .keyReadC
  | .init | .nowMs | .nowUs | .sample | .delayMs | .delayUs | .encode | .decode => none

/-- Decoding a command word: OP first, then RSV and MODE (30_encoding R92, R98; 60_exceptions R225 checks 1 and 2). -/
def decodeWord (v : Word) : Except DecodeError Instr :=
  match instrOfOp (opField v) with
  | none => .error .illegalOp
  | some i =>
    if rsvField v ≠ 0#23 then .error .reservedBits
    else if modeBit v then
      match continuousForm i with
      | some c => .ok c
      | none => .error .reservedBits
    else .ok i

/-- The exact command words of 30_encoding R97. -/
def encode : Instr → Word
  | .init => 0x00000001
  | .nowMs => 0x00000002
  | .nowUs => 0x00000003
  | .sample => 0x00000004
  | .delayMs => 0x00000005
  | .delayUs => 0x00000006
  | .encode => 0x00000007
  | .decode => 0x00000008
  | .keyRead => 0x00000009
  | .keyReadC => 0x00000109

/-- Byte n of a bus word as the host lays it out, n = 0 at the lowest address: bits 8n + 7 down to 8n (20_memory R63). -/
def byteOfWord (v : Word) (n : Nat) : Byte := v.extractLsb' (8 * n) 8

/-- The bus word of four bytes, the first from the lowest address: little-endian (20_memory R63). -/
def wordOfBytes (b0 b1 b2 b3 : Byte) : Word := b3 ++ b2 ++ b1 ++ b0

/-- The bus word whose low nbits are the number w and whose other bits are 0. -/
def tableWord (nbits w : Nat) : Word := BitVec.ofNat 32 (w % 2 ^ nbits)

/-- The command the decoder reads from the four bytes of a table word. -/
def decodeTableWord (nbits w : Nat) : Option Instr :=
  let v := tableWord nbits w
  match decodeWord (wordOfBytes (byteOfWord v 0) (byteOfWord v 1) (byteOfWord v 2) (byteOfWord v 3)) with
  | .ok i => some i
  | .error _ => none

end Sys2Proof
end

