-- ==== Sys2Proof/Machine/State.lean ====
section
/-! DEFINITION. The block's state (10_state R20), the pin inputs (R37), the parameters, the model's own fields that
hold the other agents, the reset values (R49), and the reasons a step can stop. -/

namespace Sys2Proof.Machine

/-- The outcome of the most recently issued command, held in ERR (10_state R31, 60_exceptions R222).
The codes 9 to 15 are never produced (R223) and have no constructor (log 16). -/
inductive ErrCode where
  | ok
  | illegalOp
  | reservedBits
  | notConfigured
  | alreadyConfigured
  | badBusFreq
  | badTickPeriod
  | tickNotDivisor
  | reloadRange
  deriving DecidableEq, Repr

/-- PHASE, the sequencing state (10_state R32). The value 3 never occurs and has no constructor (log 16). -/
inductive Phase where
  /-- No command in progress. -/
  | idle
  /-- A DELAY_MS or DELAY_US is waiting. -/
  | delay
  /-- A KEY_READ is in its debounce wait. -/
  | debounce
  deriving DecidableEq, Repr

/-- D_UNIT: which reading a wait compares (10_state R34). -/
inductive TimeUnit where
  | ms
  | us
  deriving DecidableEq, Repr

/-- The machine: the elements of 10_state R20, the pins of R37, the parameters of 00_scope R9, and the model's own
program, round and lastRead. -/
structure State where
  /-- W, N, K, ACTIVE_LEVEL and BASE (00_scope R9). No step writes it. -/
  params : Params
  /-- ELAPSED: milliseconds since the seed (R21). -/
  elapsed : Word
  /-- US_PER_UNIT: counts per microsecond (R22). -/
  usPerUnit : Word
  /-- MS_PER_UNIT: counts per millisecond (R22). -/
  msPerUnit : Word
  /-- TICK_PERIOD: milliseconds per tick (R23). -/
  tickPeriod : Byte
  /-- RELOAD: the value the down-counter reloads from (R24), W bits held in a word (log 9). -/
  reload : Word
  /-- CVR: the live down-counter (R25), W bits held in a word (log 9). -/
  cvr : Word
  /-- CFG: an INIT has succeeded (R26). -/
  cfg : Bool
  /-- ARG0 to ARG2: operands, written by the host only (R29). -/
  arg0 : Word
  arg1 : Word
  arg2 : Word
  /-- RES0 and RES1: results, written by completions only (R30). -/
  res0 : Word
  res1 : Word
  /-- ERR (R31). -/
  err : ErrCode
  /-- PHASE (R32). -/
  phase : Phase
  /-- D_UNIT, D_START and D_TARGET: the wait in progress (R34). -/
  dUnit : TimeUnit
  dStart : Word
  dTarget : Word
  /-- DB_KEY: the key whose debounce wait is in progress (R35). -/
  dbKey : Word
  /-- LATCH[k] in bit k - 1: 0 Released, 1 Pressed (R36; log 10). -/
  latch : Word
  /-- PIN_LEVEL[k] in bit k - 1: an input (R37; log 10). -/
  pinLevel : Word
  /-- MODEL'S OWN: the lines of the run still to come, of the Host and of the other agents, the next one first
(30_encoding R99, 00_scope R6, R7; log 1, log 4). -/
  program : List Line
  /-- MODEL'S OWN: how many free rounds have been taken (00_scope R8; log 2). -/
  round : Nat
  /-- MODEL'S OWN: what the Host's latest bus read returned (20_memory R65; log 5). -/
  lastRead : Option Word
  deriving DecidableEq, Repr

/-- Why the machine stops with a fault. There is no constructor: the block raises no exception, trap or fault of its
own (60_exceptions R220, R229); a command it refuses completes with a code in ERR (R224; log 15). -/
inductive Fault where
  deriving DecidableEq, Repr

/-- Why the model gives a step no meaning. -/
inductive Refusal where
  /-- A command without a meaning yet. Raised by Dispatch only, and by no arm of it now. Safe. -/
  | notModelled (mnemonic : String)
  /-- An 8-bit, 16-bit or misaligned access of the window: a bus error on the Host's side, and the host program is
  refused there (20_memory R64, 60_exceptions R243; log 11). Raised by the Host's turn. Safe. -/
  | busError
  /-- An access outside BASE to BASE + 0x3F: not seen by the block, what it does is the platform's
  (20_memory R61; log 12). Raised by the Host's turn. Safe. -/
  | outsideWindow
  /-- A pin event for a key outside 1..K, which has no pin (43_debounce R191; log 13). Raised by the PinEnv's turn. Safe. -/
  | noSuchPin
  deriving DecidableEq, Repr

/-- The reset values of 10_state R49, for given parameters and pin levels, with no program. -/
def State.atReset (p : Params) (pins : Word) : State :=
  { params := p
    elapsed := 0#32, usPerUnit := 0#32, msPerUnit := 0#32, tickPeriod := 0#8, reload := 0#32, cvr := 0#32, cfg := false
    arg0 := 0#32, arg1 := 0#32, arg2 := 0#32, res0 := 0#32, res1 := 0#32
    err := .ok, phase := .idle
    dUnit := .ms, dStart := 0#32, dTarget := 0#32, dbKey := 0#32
    latch := 0#32, pinLevel := pins
    program := [], round := 0, lastRead := none }

/-- The machine right after reset: the reset values of R49, the default parameters, and the pins at the free value
(70_reset R251). -/
def State.reset : State := State.atReset Params.default Config.initialPins

end Sys2Proof.Machine
end

