-- ==== Sys2Proof/Machine/Operands.lean ====
section
/-! DEFINITION. What commands and checks read: masks, the signed reading and division (00_scope R12, R13), the helper
functions of R15, key ids, latches and pins (43_debounce R192, R193), and the codec's widths (42_priority_codec R171). -/

namespace Sys2Proof.Machine

/-- mask(w) = 2^w - 1, for w in 0..32 (00_scope R13). -/
def mask (w : Nat) : Word := BitVec.ofNat 32 (2 ^ w - 1)

/-- signed32(v): the two's-complement reading (00_scope R13). -/
def signed32 (v : Word) : Int := v.toInt

/-- a / b truncated, defined for b not 0 only (00_scope R12); otherwise the free value (log 8). -/
def quotient (a b : Word) : Word := if b = 0#32 then Config.divByZero a else a / b

/-- COUNTER_MAX = 2^W - 1 (00_scope R9). -/
def counterMax (p : Params) : Nat := 2 ^ p.counterWidth - 1

/-- now_ms_val() (00_scope R15). -/
def nowMsVal (s : State) : Word := s.elapsed - quotient s.cvr s.msPerUnit

/-- now_us_val(), each operation modulo 2^32 (00_scope R15). -/
def nowUsVal (s : State) : Word := s.elapsed * 1000#32 - quotient s.cvr s.usPerUnit

/-- now_val(unit) (00_scope R15). -/
def nowVal (u : TimeUnit) (s : State) : Word :=
  match u with
  | .ms => nowMsVal s
  | .us => nowUsVal s

/-- Bit k - 1 of a bank of keys, which is the bit of key k (10_state R39). -/
def bankBit (bank : Word) (k : Nat) : Bool := bank.getLsbD (k - 1)

/-- The bank with the bit of key k set to b and the other bits kept. -/
def setBankBit (bank : Word) (k : Nat) (b : Bool) : Word :=
  if b then bank ||| BitVec.twoPow 32 (k - 1) else bank &&& ~~~(BitVec.twoPow 32 (k - 1))

/-- Whether key k exists: 1 ≤ k ≤ K. -/
def keyInRange (p : Params) (k : Nat) : Bool := decide (1 ≤ k) && decide (k ≤ p.numKeys)

/-- valid_key(k) for a key id read as a u32 (00_scope R15, 43_debounce R193). -/
def validKey (p : Params) (k : Word) : Bool := keyInRange p k.toNat

/-- LATCH[k]: true is Pressed (10_state R36). -/
def latchOf (s : State) (k : Nat) : Bool := bankBit s.latch k

/-- PIN_LEVEL[k] (10_state R37). -/
def pinOf (s : State) (k : Nat) : Bool := bankBit s.pinLevel k

/-- active(k): the pin of key k is at its active level (00_scope R15, 43_debounce R192). -/
def active (s : State) (k : Nat) : Bool := pinOf s k == bankBit s.params.activeLevel k

/-- The effective group width g = min(gw, N) (42_priority_codec R171). -/
def groupWidth (p : Params) (gw : Word) : Nat := min gw.toNat p.prioBits

/-- sub_bits = N - g (42_priority_codec R171). -/
def subBits (p : Params) (gw : Word) : Nat := p.prioBits - groupWidth p gw

end Sys2Proof.Machine
end

