-- ==== Sys2Proof/Machine/Flags.lean ====
section
/-! DEFINITION. The flags BUSY, CFG and ERR and the read-only views: STATUS, LATCH, PINS and PARAM
(10_state R33, R39 to R41, R45), and the error code of a word that spells no command (30_encoding R98). -/

namespace Sys2Proof.Machine

/-- The codes of 60_exceptions R222. -/
def errBits : ErrCode → BitVec 4
  | .ok => 0
  | .illegalOp => 1
  | .reservedBits => 2
  | .notConfigured => 3
  | .alreadyConfigured => 4
  | .badBusFreq => 5
  | .badTickPeriod => 6
  | .tickNotDivisor => 7
  | .reloadRange => 8

/-- The code a word that spells no command completes with (60_exceptions R225 checks 1 and 2). -/
def errOfDecode : DecodeError → ErrCode
  | .illegalOp => .illegalOp
  | .reservedBits => .reservedBits

/-- The values of PHASE (10_state R32). -/
def phaseBits : Phase → BitVec 2
  | .idle => 0
  | .delay => 1
  | .debounce => 2

/-- BUSY = (PHASE is not IDLE) (10_state R33). -/
def busy (s : State) : Bool :=
  match s.phase with
  | .idle => false
  | .delay | .debounce => true

/-- STATUS: bit 0 BUSY, bit 1 CFG, bits 3:2 PHASE, bits 11:8 ERR, the others 0 (10_state R40). -/
def statusView (s : State) : Word :=
  0#20 ++ errBits s.err ++ 0#4 ++ phaseBits s.phase ++ BitVec.ofBool s.cfg ++ BitVec.ofBool (busy s)

/-- LATCH: bit k - 1 is LATCH[k] for k in 1..K, the others 0 (10_state R39). -/
def latchView (s : State) : Word := s.latch &&& mask s.params.numKeys

/-- PINS: bit k - 1 is PIN_LEVEL[k] for k in 1..K, the others 0 (10_state R39). -/
def pinsView (s : State) : Word := s.pinLevel &&& mask s.params.numKeys

/-- PARAM: bits 5:0 W, 11:8 N, 21:16 K, 31:24 DEBOUNCE_MS, the others 0 (10_state R41). -/
def paramView (p : Params) : Word :=
  Config.debounceMs.extractLsb' 0 8 ++ 0#2 ++ BitVec.ofNat 6 p.numKeys ++ 0#4
    ++ BitVec.ofNat 4 p.prioBits ++ 0#2 ++ BitVec.ofNat 6 p.counterWidth

end Sys2Proof.Machine
end

