-- ==== Sys2Proof/Machine/Ops.lean ====
section
/-! DEFINITION. The shared operations: completing a command (30_encoding R96), failing it (60_exceptions R224), the
NOT_CONFIGURED check (R226), the wait engine (41_delay R151 to R154, 43_debounce R196, R197), latches, pins, and the
read value of every register (20_memory R62). The block takes no exception and has no return from one (60_exceptions
R229, R230): fail is its one error operation. -/

namespace Sys2Proof.Machine

/-- A successful completion in the issue step: both results and ERR <- OK (30_encoding R96, 60_exceptions R224). -/
def complete (r0 r1 : Word) (s : State) : State := { s with res0 := r0, res1 := r1, err := .ok }

/-- fail(code): the error completion, which writes ERR, RES0 and RES1 and nothing else (60_exceptions R224). -/
def fail (e : ErrCode) (s : State) : State := { s with res0 := 0#32, res1 := 0#32, err := e }

/-- The issue of a command that needs CFG = 1 (60_exceptions R225 check 3, R226). -/
def whenConfigured (body : State → State) (s : State) : State :=
  if s.cfg then body s else fail .notConfigured s

/-- LATCH[k] <- b. -/
def setLatch (k : Nat) (b : Bool) (s : State) : State := { s with latch := setBankBit s.latch k b }

/-- PIN_LEVEL[k] <- level (43_debounce R191). -/
def setPin (k : Nat) (level : Bool) (s : State) : State := { s with pinLevel := setBankBit s.pinLevel k level }

/-- The wait goes on: signed32(now - D_TARGET) < 0 (41_delay R153). -/
def waiting (s : State) : Bool := decide (signed32 (nowVal s.dUnit s - s.dTarget) < 0)

/-- Delay completion, with the completing sample (41_delay R154). -/
def delayCompletion (s : State) : State :=
  { s with res0 := s.dStart, res1 := nowVal s.dUnit s, phase := .idle }

/-- Debounce completion: re-sample the pin of DB_KEY in this step (43_debounce R197). -/
def debounceCompletion (s : State) : State :=
  if active s s.dbKey.toNat then
    { setLatch s.dbKey.toNat true s with res0 := 1#32, res1 := s.dbKey, phase := .idle }
  else
    { s with res0 := 0#32, res1 := 0#32, phase := .idle }

/-- The completion check, run after the issue of a wait and after every COUNT (41_delay R153, 40_clock R131). -/
def completionCheck (s : State) : State :=
  match s.phase with
  | .idle => s
  | .delay => if waiting s then s else delayCompletion s
  | .debounce => if waiting s then s else debounceCompletion s

/-- The wait state written at the issue of a wait of n units from the present reading (41_delay R151, R152). -/
def setWait (u : TimeUnit) (n : Word) (ph : Phase) (s : State) : State :=
  { s with dUnit := u, dStart := nowVal u s, dTarget := nowVal u s + n, phase := ph, err := .ok }

/-- The issue of a wait: the wait state, then the completion check against it (41_delay R151 to R153). -/
def startWait (u : TimeUnit) (n : Word) (ph : Phase) (s : State) : State := completionCheck (setWait u n ph s)

/-- What a bus read of each register returns (20_memory R62). -/
def readReg (r : Reg) (s : State) : Word :=
  match r with
  | .cmd => 0#32
  | .arg0 => s.arg0
  | .arg1 => s.arg1
  | .arg2 => s.arg2
  | .res0 => s.res0
  | .res1 => s.res1
  | .status => statusView s
  | .elapsed => s.elapsed
  | .cvr => s.cvr
  | .reload => s.reload
  | .usPerUnit => s.usPerUnit
  | .msPerUnit => s.msPerUnit
  | .tickPeriod => s.tickPeriod.setWidth 32
  | .latch => latchView s
  | .pins => pinsView s
  | .param => paramView s.params

end Sys2Proof.Machine
end

