-- ==== Sys2Proof/Machine/Clock.lean ====
section
/-! DEFINITION. The monotonic timer: INIT, NOW_MS, NOW_US, SAMPLE and the COUNT event (40_clock R123 to R131). -/

namespace Sys2Proof.Machine

/-- pc = P * m, exact: the counts in one tick period that the operands ask for (40_clock R123). -/
def periodCounts (s : State) : Nat := s.arg1.toNat * (s.arg0.toNat / 1000)

/-- INIT's own checks, in their order; the first that applies decides the code (40_clock R123, R124). -/
def initError (s : State) : Option ErrCode :=
  if s.cfg then some .alreadyConfigured
  else if s.arg0.toNat = 0 ∨ s.arg0.toNat % 1000000 ≠ 0 then some .badBusFreq
  else if s.arg1.toNat = 0 ∨ 255 < s.arg1.toNat then some .badTickPeriod
  else if counterMax s.params % s.arg1.toNat ≠ 0 then some .tickNotDivisor
  else if counterMax s.params < periodCounts s - 1 then some .reloadRange
  else none

/-- The clock elements a successful INIT writes (40_clock R123, R125). -/
def configureClock (s : State) : State :=
  { s with
    usPerUnit := BitVec.ofNat 32 (s.arg0.toNat / 1000000)
    msPerUnit := BitVec.ofNat 32 (s.arg0.toNat / 1000)
    tickPeriod := s.arg1.setWidth 8
    reload := BitVec.ofNat 32 ((periodCounts s - 1) % 2 ^ s.params.counterWidth)
    cvr := 0#32
    elapsed := s.arg2
    cfg := true }

/-- INIT (40_clock R123). -/
def execInit (s : State) : Host.Outcome State Fault Refusal :=
  .next (match initError s with
    | some e => fail e s
    | none => complete 0#32 0#32 (configureClock s))

/-- NOW_MS (40_clock R127). -/
def execNowMs (s : State) : Host.Outcome State Fault Refusal :=
  .next (whenConfigured (fun t => complete (nowMsVal t) 0#32 t) s)

/-- NOW_US (40_clock R128). -/
def execNowUs (s : State) : Host.Outcome State Fault Refusal :=
  .next (whenConfigured (fun t => complete (nowUsVal t) 0#32 t) s)

/-- SAMPLE (40_clock R129). -/
def execSample (s : State) : Host.Outcome State Fault Refusal :=
  .next (whenConfigured (fun t => complete t.elapsed t.cvr t) s)

/-- One unit of the counter: the tick when CVR is 0, else a decrement (40_clock R131). -/
def advanceCounter (s : State) : State :=
  if s.cvr = 0#32 then { s with cvr := s.reload, elapsed := s.elapsed + s.tickPeriod.setWidth 32 }
  else { s with cvr := s.cvr - 1 }

/-- The COUNT event: nothing while CFG = 0, else the counter and then the completion check (40_clock R131). -/
def countEvent (s : State) : State := if s.cfg then completionCheck (advanceCounter s) else s

end Sys2Proof.Machine
end

