-- ==== Sys2Proof/Machine/Codec.lean ====
section
/-! DEFINITION. The priority codec: ENCODE and DECODE (42_priority_codec R171 to R173). Neither needs CFG. -/

namespace Sys2Proof.Machine

/-- The packed field: preempt in the high g bits, sub in the low N - g bits (42_priority_codec R172). -/
def packField (p : Params) (gw preempt sub : Word) : Word :=
  ((preempt &&& mask (groupWidth p gw)) <<< subBits p gw) ||| (sub &&& mask (subBits p gw))

/-- The preempt part of a raw priority value (42_priority_codec R173). -/
def preemptPart (p : Params) (gw raw : Word) : Word :=
  ((raw &&& mask p.prioBits) >>> subBits p gw) &&& mask (groupWidth p gw)

/-- The sub part of a raw priority value (42_priority_codec R173). -/
def subPart (p : Params) (gw raw : Word) : Word :=
  (raw &&& mask p.prioBits) &&& mask (subBits p gw)

/-- ENCODE (42_priority_codec R172). -/
def execEncode (s : State) : Host.Outcome State Fault Refusal :=
  .next (complete (packField s.params s.arg0 s.arg1 s.arg2) 0#32 s)

/-- DECODE (42_priority_codec R173). -/
def execDecode (s : State) : Host.Outcome State Fault Refusal :=
  .next (complete (preemptPart s.params s.arg0 s.arg1) (subPart s.params s.arg0 s.arg1) s)

end Sys2Proof.Machine
end

