-- ==== Sys2Proof/Machine/Debounce.lean ====
section
/-! DEFINITION. The key debouncer: KEY_READ in both modes (43_debounce R195 to R197, R201, R206). -/

namespace Sys2Proof.Machine

/-- Starting the debounce wait of the key in ARG0: DB_KEY, then a wait of DEBOUNCE_MS (43_debounce R196). -/
def startDebounce (s : State) : State := startWait .ms Config.debounceMs .debounce { s with dbKey := s.arg0 }

/-- A valid key's poll once the latch is reset if the mode asks for it: the first sample and what follows
(43_debounce R195). -/
def samplePin (s : State) : State :=
  if active s s.arg0.toNat then
    if latchOf s s.arg0.toNat then complete 0#32 0#32 s else startDebounce s
  else complete 0#32 0#32 (setLatch s.arg0.toNat false s)

/-- A valid key's poll: continuous mode clears the latch at the start of every call (43_debounce R195, R200). -/
def pollKey (cont : Bool) (s : State) : State :=
  samplePin (if cont then setLatch s.arg0.toNat false s else s)

/-- KEY_READ: an invalid key gives no press at any time, a valid one needs CFG (43_debounce R195, R201, R206). -/
def readKey (cont : Bool) (s : State) : State :=
  if validKey s.params s.arg0 then whenConfigured (pollKey cont) s else complete 0#32 0#32 s

/-- KEY_READ, one-shot mode (43_debounce R195). -/
def execKeyRead (s : State) : Host.Outcome State Fault Refusal := .next (readKey false s)

/-- KEY_READ.C, continuous mode (43_debounce R195). -/
def execKeyReadC (s : State) : Host.Outcome State Fault Refusal := .next (readKey true s)

end Sys2Proof.Machine
end

