-- ==== Sys2Proof/Machine/Delay.lean ====
section
/-! DEFINITION. The delay engine's commands, DELAY_MS and DELAY_US (41_delay R151, R152). -/

namespace Sys2Proof.Machine

/-- DELAY_MS (41_delay R151). -/
def execDelayMs (s : State) : Host.Outcome State Fault Refusal :=
  .next (whenConfigured (fun t => startWait .ms t.arg0 .delay t) s)

/-- DELAY_US (41_delay R152). -/
def execDelayUs (s : State) : Host.Outcome State Fault Refusal :=
  .next (whenConfigured (fun t => startWait .us t.arg0 .delay t) s)

end Sys2Proof.Machine
end

