-- ==== Sys2Proof/Machine/Dispatch.lean ====
section
/-! DEFINITION. The issue of a command in PHASE = IDLE (20_memory R67): one arm per command. -/

namespace Sys2Proof.Machine

def exec (i : Instr) (s : State) : Host.Outcome State Fault Refusal :=
  match i with
  | .init => Sys2Proof.Machine.execInit s
  | .nowMs => Sys2Proof.Machine.execNowMs s
  | .nowUs => Sys2Proof.Machine.execNowUs s
  | .sample => Sys2Proof.Machine.execSample s
  | .delayMs => Sys2Proof.Machine.execDelayMs s
  | .delayUs => Sys2Proof.Machine.execDelayUs s
  | .encode => Sys2Proof.Machine.execEncode s
  | .decode => Sys2Proof.Machine.execDecode s
  | .keyRead => Sys2Proof.Machine.execKeyRead s
  | .keyReadC => Sys2Proof.Machine.execKeyReadC s

end Sys2Proof.Machine
end

