-- ==== Sys2Proof/Machine/Bus.lean ====
section
/-! DEFINITION. The register window on the host bus: offsets (20_memory R62), legal accesses (R61, R64), reads (R65),
writes (R66), the issue of a command word (R67), which writes are held (R68), and the Host's turn. -/

namespace Sys2Proof.Machine

/-- The byte offset of each register from BASE (20_memory R62). -/
def regOffset : Reg → Nat
  | .cmd => 0x00
  | .arg0 => 0x04
  | .arg1 => 0x08
  | .arg2 => 0x0C
  | .res0 => 0x10
  | .res1 => 0x14
  | .status => 0x18
  | .elapsed => 0x1C
  | .cvr => 0x20
  | .reload => 0x24
  | .usPerUnit => 0x28
  | .msPerUnit => 0x2C
  | .tickPeriod => 0x30
  | .latch => 0x34
  | .pins => 0x38
  | .param => 0x3C

/-- The register at a byte offset of the window, for the sixteen multiples of 4 (20_memory R62). -/
def regAtOffset (off : Nat) : Option Reg :=
  match off with
  | 0x00 => some .cmd
  | 0x04 => some .arg0
  | 0x08 => some .arg1
  | 0x0C => some .arg2
  | 0x10 => some .res0
  | 0x14 => some .res1
  | 0x18 => some .status
  | 0x1C => some .elapsed
  | 0x20 => some .cvr
  | 0x24 => some .reload
  | 0x28 => some .usPerUnit
  | 0x2C => some .msPerUnit
  | 0x30 => some .tickPeriod
  | 0x34 => some .latch
  | 0x38 => some .pins
  | 0x3C => some .param
  | _ => none

/-- The register an access selects, or why it is no access of the block: outside the window (20_memory R61), or of a
wrong width or alignment (R64). -/
def regOfAccess (p : Params) (addr : Nat) (size : AccessSize) : Except Refusal Reg :=
  if addr < p.base ∨ p.base + 0x40 ≤ addr then .error .outsideWindow
  else if size ≠ .word ∨ addr % 4 ≠ 0 then .error .busError
  else
    match regAtOffset (addr - p.base) with
    | some r => .ok r
    | none => .error .busError

/-- A write of the word v to CMD in PHASE = IDLE: decode, then the issue rule; a word that spells no command fails
with its code (20_memory R67, 60_exceptions R225). -/
def issueWord (v : Word) (s : State) : Host.Outcome State Fault Refusal :=
  match decodeWord v with
  | .ok i => exec i s
  | .error e => .next (fail (errOfDecode e) s)

/-- A bus read returns the register's value and changes no element of the block (20_memory R65; log 5). -/
def busRead (r : Reg) (s : State) : State := { s with lastRead := some (readReg r s) }

/-- A bus write: CMD issues a command, an ARG register takes the data, a read-only register ignores it
(20_memory R62, R66, R67). -/
def busWrite (r : Reg) (v : Word) (s : State) : Host.Outcome State Fault Refusal :=
  match r with
  | .cmd => issueWord v s
  | .arg0 => .next { s with arg0 := v }
  | .arg1 => .next { s with arg1 := v }
  | .arg2 => .next { s with arg2 := v }
  | .res0 | .res1 | .status | .elapsed | .cvr | .reload | .usPerUnit | .msPerUnit
  | .tickPeriod | .latch | .pins | .param => .next s

/-- One bus access that is not held. -/
def performAccess (a : Access) (s : State) : Host.Outcome State Fault Refusal :=
  match a with
  | .read addr size =>
    match regOfAccess s.params addr size with
    | .ok r => .next (busRead r s)
    | .error e => .refused e
  | .write addr size v =>
    match regOfAccess s.params addr size with
    | .ok r => busWrite r v s
    | .error e => .refused e

/-- Whether the access is a legal write to CMD. -/
def isCommandWrite (p : Params) (a : Access) : Bool :=
  match a with
  | .read _ _ => false
  | .write addr size _ =>
    match regOfAccess p addr size with
    | .ok .cmd => true
    | _ => false

/-- A write to CMD is held while PHASE is not IDLE (20_memory R68). -/
def held (a : Access) (s : State) : Bool := busy s && isCommandWrite s.params a

/-- One POLL read of STATUS. While bit 0 of the value read is 1 the line stays, and one COUNT event comes before its next
read; it is done once the bit is 0 (30_encoding R100; log 3). -/
def pollStatus (s : State) : State :=
  if busy s then { busRead .status s with program := .count 0 :: .host .poll :: s.program } else busRead .status s

/-- The Host's step (00_scope R7). -/
def hostTurn (l : HostLine) (s : State) : Host.Outcome State Fault Refusal :=
  match l with
  | .access a => performAccess a s
  | .poll => .next (pollStatus s)

end Sys2Proof.Machine
end

