-- ==== Sys2Proof/Machine/Agents.lean ====
section
/-! DEFINITION. Which agent's event comes next (00_scope R7, R8, 20_memory R68, 30_encoding R99), pin changes
(43_debounce R191), RESET (70_reset R250), and one step of the block, which is one event (00_scope R6). -/

namespace Sys2Proof.Machine

/-- Whether a line is the Host's own; the others are the environment's (30_encoding R99). -/
def isHostLine : Line → Bool
  | .host _ => true
  | .count _ | .pin _ _ | .reset => false

/-- A CMD write while PHASE is not IDLE has no step yet (20_memory R68). -/
def lineHeld (l : Line) (s : State) : Bool :=
  match l with
  | .host (.access a) => held a s
  | .host .poll | .count _ | .pin _ _ | .reset => false

/-- The first event of a line, and what is left of the line after it: the events of a COUNT line come in a row
(30_encoding R99). -/
def firstEvent : Line → Turn × List Line
  | .host l => (.host l, [])
  | .count 0 => (.count, [])
  | .count (more + 1) => (.count, [.count more])
  | .pin k level => (.pin k level, [])
  | .reset => (.reset, [])

/-- The first event of a line comes next, and `rest` follows the line. -/
def takeLine (l : Line) (rest : List Line) (s : State) : Turn × State :=
  ((firstEvent l).1, { s with program := (firstEvent l).2 ++ rest })

/-- Another agent's event while the Host is stuck on the held write `w`: that of the environment line right after the
write; a COUNT event if there is none (20_memory R68, 30_encoding R99, 00_scope R8; log 3). -/
def turnWhileHeld (w : Line) (rest : List Line) (s : State) : Turn × State :=
  match rest with
  | [] => (.count, s)
  | e :: after => if isHostLine e then (.count, s) else takeLine e (w :: after) s

/-- The lines of the n-th free round, one COUNT event among them. A PIN line of a key that has no pin is no event of the
PinEnv and is left out (43_debounce R191; log 2). -/
def roundLines (p : Params) (n : Nat) : List Line :=
  (Config.freeRound n).1.filter (Line.wf p) ++ .count 0 :: (Config.freeRound n).2.filter (Line.wf p)

/-- The next event once a program's run is over: the outside world goes on with its next free round
(00_scope R7, R8, 70_reset R281; log 2). -/
def openRound (s : State) : Turn × State :=
  match roundLines s.params s.round with
  | [] => (.count, { s with round := s.round + 1 })
  | l :: rest => takeLine l rest { s with round := s.round + 1 }

/-- The event of the next step, and the state with the lines that come after it. A run with no line left and PHASE not
IDLE goes on with COUNT events (70_reset R281). -/
def nextTurn (s : State) : Turn × State :=
  match s.program with
  | [] => if busy s then (.count, s) else openRound s
  | l :: rest => if lineHeld l s then turnWhileHeld l rest s else takeLine l rest s

/-- The PinEnv sets the level of the pin of a key in 1..K (43_debounce R191). -/
def pinTurn (k : Nat) (level : Bool) (s : State) : Host.Outcome State Fault Refusal :=
  if keyInRange s.params k then .next (setPin k level s) else .refused .noSuchPin

/-- RESET writes every state element its reset value and keeps the parameters, the pins and the lines still to come, a
held CMD write among them (70_reset R250). -/
def resetEvent (s : State) : State :=
  { State.atReset s.params s.pinLevel with program := s.program, round := s.round, lastRead := s.lastRead }

/-- What one event does. -/
def perform (e : Turn) (s : State) : Host.Outcome State Fault Refusal :=
  match e with
  | .host l => hostTurn l s
  | .count => .next (countEvent s)
  | .pin k level => pinTurn k level s
  | .reset => .next (resetEvent s)

/-- One step is the event of one agent (00_scope R6). -/
def takeTurn (s : State) : Host.Outcome State Fault Refusal := perform (nextTurn s).1 (nextTurn s).2

end Sys2Proof.Machine
end

