-- ==== Sys2Proof/Machine/Step.lean ====
section
/-! DEFINITION. The step function, and how a command word is placed where the next step takes it. -/

namespace Sys2Proof.Machine

/-- One step of the block: the event of one agent (00_scope R6). -/
def step (s : State) : Host.Outcome State Fault Refusal := takeTurn s

/-- The state in which the Host's very next step writes the command word to CMD (20_memory R67; log 4). -/
def State.withFetchWord (s : State) (nbits w : Nat) : State :=
  { s with
    program := .host (.access (.write (s.params.base + regOffset .cmd) .word (tableWord nbits w))) :: s.program }

end Sys2Proof.Machine
end

