-- ==== Sys2Proof/Machine/HostProgram.lean ====
section
/-! DEFINITION. Host programs: the lines of 30_encoding R99, the pseudo-instructions and their expansions (R100), and
loading a program. -/

namespace Sys2Proof.Machine

/-- WR reg, value: MemWrite(BASE + offset(reg), 4, value) (30_encoding R99). -/
def writeLine (p : Params) (r : Reg) (v : Word) : Line :=
  .host (.access (.write (p.base + regOffset r) .word v))

/-- RD reg: MemRead(BASE + offset(reg), 4) (30_encoding R99). -/
def readLine (p : Params) (r : Reg) : Line := .host (.access (.read (p.base + regOffset r) .word))

/-- The expansions of 30_encoding R100: every operand is written before CMD. -/
def expandPseudo (p : Params) : Pseudo → List Line
  | .init b t sd => [writeLine p .arg0 b, writeLine p .arg1 t, writeLine p .arg2 sd, writeLine p .cmd 0x00000001]
  | .nowMs => [writeLine p .cmd 0x00000002]
  | .nowUs => [writeLine p .cmd 0x00000003]
  | .sample => [writeLine p .cmd 0x00000004]
  | .delayMs n => [writeLine p .arg0 n, writeLine p .cmd 0x00000005]
  | .delayUs n => [writeLine p .arg0 n, writeLine p .cmd 0x00000006]
  | .encode g pr sb => [writeLine p .arg0 g, writeLine p .arg1 pr, writeLine p .arg2 sb, writeLine p .cmd 0x00000007]
  | .decode g r => [writeLine p .arg0 g, writeLine p .arg1 r, writeLine p .cmd 0x00000008]
  | .keyRead k => [writeLine p .arg0 k, writeLine p .cmd 0x00000009]
  | .keyReadC k => [writeLine p .arg0 k, writeLine p .cmd 0x00000109]
  | .poll => [.host .poll]

/-- The lines of a program line (30_encoding R99, R100); COUNT 0 is no event. -/
def expandLine (p : Params) : ProgLine → List Line
  | .wr r v => [writeLine p r v]
  | .rd r => [readLine p r]
  | .count 0 => []
  | .count (n + 1) => [.count n]
  | .pin k level => [.pin k level]
  | .reset => [.reset]
  | .pseudo q => expandPseudo p q

/-- The state with a host program placed after the lines it already holds (30_encoding R99; log 4). -/
def loadProgram (prog : List ProgLine) (s : State) : State :=
  { s with program := s.program ++ prog.flatMap (expandLine s.params) }

end Sys2Proof.Machine
end

