-- ==== Sys2Proof/Safety.lean ====
section
/-! DEFINITION. What claims call a good state: the invariants of 10_state R27, R28 and R35 and of 43_debounce R197,
the pending wait (41_delay R153), and the end of a run (70_reset R281). -/

namespace Sys2Proof.Machine

/-- The clock while CFG = 1 (10_state R27). -/
abbrev ClockConfigured (s : State) : Prop :=
  1 ≤ s.usPerUnit.toNat ∧ s.msPerUnit.toNat = 1000 * s.usPerUnit.toNat
    ∧ 1 ≤ s.tickPeriod.toNat ∧ counterMax s.params % s.tickPeriod.toNat = 0
    ∧ s.reload.toNat + 1 = s.tickPeriod.toNat * s.msPerUnit.toNat
    ∧ 999 ≤ s.reload.toNat ∧ s.reload.toNat ≤ counterMax s.params
    ∧ s.cvr.toNat ≤ s.reload.toNat

/-- The clock while CFG = 0 (10_state R28). -/
abbrev ClockUnconfigured (s : State) : Prop :=
  s.elapsed = 0#32 ∧ s.usPerUnit = 0#32 ∧ s.msPerUnit = 0#32 ∧ s.tickPeriod = 0#8 ∧ s.reload = 0#32
    ∧ s.cvr = 0#32 ∧ s.phase = .idle

/-- The wait in progress: its completion check has not passed yet (41_delay R153), and a debounce wait is the ten
milliseconds of a valid key whose latch is Released (10_state R35, 43_debounce R196, R197). -/
def WaitPending (s : State) : Prop :=
  match s.phase with
  | .idle => True
  | .delay => waiting s = true
  | .debounce =>
    waiting s = true ∧ s.dUnit = .ms ∧ s.dTarget = s.dStart + Config.debounceMs
      ∧ validKey s.params s.dbKey = true ∧ latchOf s s.dbKey.toNat = false

/-- No latch above K is set: there is none (10_state R36). -/
abbrev LatchesInRange (s : State) : Prop := s.latch.toNat < 2 ^ s.params.numKeys

/-- The invariant of the block: every step keeps it, and reset has it. -/
structure Inv (s : State) : Prop where
  params : s.params.wf = true
  configured : s.cfg = true → ClockConfigured s
  unconfigured : s.cfg = false → ClockUnconfigured s
  pending : WaitPending s
  latches : LatchesInRange s

/-- The run of the program is over: no line of it is left, of the Host or of the environment, and PHASE = IDLE
(70_reset R281, 30_encoding R99). -/
abbrev RunEnded (s : State) : Prop := s.program = [] ∧ s.phase = .idle

/-- The next step is the Host's write of a word to CMD that decodes to the command `i` (20_memory R67). -/
def IssueNext (s : State) (i : Instr) : Prop :=
  ∃ v, (nextTurn s).1 = .host (.access (.write s.params.base .word v)) ∧ decodeWord v = .ok i

/-- `n` COUNT events in a row with no other step between them (30_encoding R99, COUNT n). -/
def counts : Nat → State → State
  | 0, s => s
  | n + 1, s => counts n (countEvent s)

/-- A COUNT event is next, from a COUNT line or where the model lets the counter clock run (00_scope R8; log 2, log 3);
`u` is the state with the lines that come after it. -/
abbrev CountNext (s u : State) : Prop := nextTurn s = (.count, u)

/-- The state right after a successful INIT from a state that keeps the invariant (40_clock R125). -/
def JustConfigured (s : State) : Prop := ∃ s0, Inv s0 ∧ exec .init s0 = .next s ∧ s.err = .ok

/-- Counts per unit of a reading: U in 41_delay R156. -/
def unitCounts (u : TimeUnit) (s : State) : Nat :=
  match u with
  | .ms => s.msPerUnit.toNat
  | .us => s.usPerUnit.toNat

end Sys2Proof.Machine
end

