-- ==== Sys2Proof/Certificates/Slice0/Obligations.lean ====
section
/-! DEFINITION. The statements for the provers: what the rules of spec/ say the commands, the events and the machine do. -/

open Sys2Proof Sys2Proof.Machine

/-! ## Encoding -/

/-- 30_encoding R97: a word is legal exactly when it is one of the ten, each with its command. -/
def Obligations.LegalWordsAreExactlyTheTen : Prop :=
  (∀ (v : Word) (i : Instr), decodeWord v = .ok i ↔ v = encode i)
    ∧ encode .init = 0x00000001#32 ∧ encode .nowMs = 0x00000002#32 ∧ encode .nowUs = 0x00000003#32
    ∧ encode .sample = 0x00000004#32 ∧ encode .delayMs = 0x00000005#32 ∧ encode .delayUs = 0x00000006#32
    ∧ encode .encode = 0x00000007#32 ∧ encode .decode = 0x00000008#32 ∧ encode .keyRead = 0x00000009#32
    ∧ encode .keyReadC = 0x00000109#32

/-- 30_encoding R98: a word whose OP is not in the map fails with ILLEGAL_OP whatever its other bits; a legal OP with
RSV not 0, or MODE = 1 on another command than KEY_READ, fails with RESERVED_BITS; nothing else changes. -/
def Obligations.BadWordsFailAndChangeNothingElse : Prop :=
  ∀ (v : Word) (s : State),
    ((v.toNat % 256 = 0 ∨ 9 < v.toNat % 256) →
        issueWord v s = .next { s with err := .illegalOp, res0 := 0#32, res1 := 0#32 })
      ∧ (1 ≤ v.toNat % 256 → v.toNat % 256 ≤ 9 →
          (v.toNat / 512 ≠ 0 ∨ (v.toNat / 256 % 2 = 1 ∧ v.toNat % 256 ≠ 9)) →
          issueWord v s = .next { s with err := .reservedBits, res0 := 0#32, res1 := 0#32 })

/-- 30_encoding R90, R93: words written out in bits, RSV then MODE then OP, decode to their commands. -/
def Obligations.WordsWrittenInBitsDecode : Prop :=
  decodeWord (0b00000000000000000000000_0_00000001#32) = .ok .init
    ∧ decodeWord (0b00000000000000000000000_0_00000100#32) = .ok .sample
    ∧ decodeWord (0b00000000000000000000000_0_00000110#32) = .ok .delayUs
    ∧ decodeWord (0b00000000000000000000000_0_00001000#32) = .ok .decode
    ∧ decodeWord (0b00000000000000000000000_0_00001001#32) = .ok .keyRead
    ∧ decodeWord (0b00000000000000000000000_1_00001001#32) = .ok .keyReadC
    ∧ decodeWord (0b00000000000000000000000_1_00001000#32) = .error .reservedBits
    ∧ decodeWord (0b00000000000000000000001_1_00001001#32) = .error .reservedBits
    ∧ decodeWord (0b00000000000000000000001_0_00000000#32) = .error .illegalOp

/-- 20_memory R63: the byte at the lowest address holds bits 7:0 of the bus word, and so on up. -/
def Obligations.BusWordIsLittleEndian : Prop :=
  ∀ b0 b1 b2 b3 : Byte,
    (wordOfBytes b0 b1 b2 b3).toNat
        = b0.toNat + 256 * b1.toNat + 65536 * b2.toNat + 16777216 * b3.toNat
      ∧ byteOfWord (wordOfBytes b0 b1 b2 b3) 0 = b0 ∧ byteOfWord (wordOfBytes b0 b1 b2 b3) 1 = b1
      ∧ byteOfWord (wordOfBytes b0 b1 b2 b3) 2 = b2 ∧ byteOfWord (wordOfBytes b0 b1 b2 b3) 3 = b3

/-! ## The bus -/

/-- 20_memory R67: a CMD write taken in PHASE = IDLE runs the decoded command in that step, and a word that spells no
command completes with its code. The step also uses up the line (log 4). -/
def Obligations.StepRunsTheDecodedCommand : Prop :=
  ∀ (s : State) (v : Word) (rest : List Line),
    s.params.wf = true → s.phase = .idle →
    s.program = .host (.access (.write (s.params.base + 0x00) .word v)) :: rest →
    (∀ i, decodeWord v = .ok i → step s = exec i { s with program := rest })
      ∧ (∀ e, decodeWord v = .error e →
          step s = .next { s with
            program := rest, res0 := 0#32, res1 := 0#32
            err := (match e with | .illegalOp => .illegalOp | .reservedBits => .reservedBits) })

/-- 20_memory R68: a CMD write made while PHASE is not IDLE is held. It has no step: the event of the environment line
right after it is taken, or a COUNT if there is none, and the write stays (log 3). -/
def Obligations.CommandWriteIsHeldWhileBusy : Prop :=
  ∀ (s : State) (w : Line) (v : Word) (rest : List Line),
    s.params.wf = true → s.phase ≠ .idle →
    w = .host (.access (.write (s.params.base + 0x00) .word v)) → s.program = w :: rest →
    ((rest = [] ∨ ∃ l after, rest = .host l :: after) → step s = .next (countEvent s))
      ∧ (∀ after, rest = .count 0 :: after → step s = .next (countEvent { s with program := w :: after }))
      ∧ (∀ n after, rest = .count (n + 1) :: after →
          step s = .next (countEvent { s with program := .count n :: w :: after }))
      ∧ (∀ k level after, rest = .pin k level :: after → 1 ≤ k → k ≤ s.params.numKeys →
          step s = .next (setPin k level { s with program := w :: after }))
      ∧ (∀ after, rest = .reset :: after → step s = .next (resetEvent { s with program := w :: after }))

/-- 30_encoding R99: COUNT n at the head of the lines is n COUNT events in a row, with no other step between them, and
then the lines after it. -/
def Obligations.CountLineRunsInARow : Prop :=
  ∀ (s : State) (n : Nat) (rest : List Line), s.program = .count n :: rest →
    Sys2Proof.core.run (n + 1) s = .next (counts (n + 1) { s with program := rest })

/-- 30_encoding R100, R94: a pseudo-instruction loaded into an idle block with no other line writes every operand and
then issues its command with those operands. -/
def Obligations.PseudoInstructionsIssueTheirCommand : Prop :=
  ∀ s : State, s.params.wf = true → s.phase = .idle → s.program = [] →
    (∀ b p sd, Sys2Proof.core.run 4 (loadProgram [.pseudo (.init b p sd)] s)
        = exec .init { s with arg0 := b, arg1 := p, arg2 := sd })
      ∧ Sys2Proof.core.run 1 (loadProgram [.pseudo .nowMs] s) = exec .nowMs s
      ∧ Sys2Proof.core.run 1 (loadProgram [.pseudo .nowUs] s) = exec .nowUs s
      ∧ Sys2Proof.core.run 1 (loadProgram [.pseudo .sample] s) = exec .sample s
      ∧ (∀ n, Sys2Proof.core.run 2 (loadProgram [.pseudo (.delayMs n)] s) = exec .delayMs { s with arg0 := n })
      ∧ (∀ n, Sys2Proof.core.run 2 (loadProgram [.pseudo (.delayUs n)] s) = exec .delayUs { s with arg0 := n })
      ∧ (∀ g p sb, Sys2Proof.core.run 4 (loadProgram [.pseudo (.encode g p sb)] s)
          = exec .encode { s with arg0 := g, arg1 := p, arg2 := sb })
      ∧ (∀ g r, Sys2Proof.core.run 3 (loadProgram [.pseudo (.decode g r)] s)
          = exec .decode { s with arg0 := g, arg1 := r })
      ∧ (∀ k, Sys2Proof.core.run 2 (loadProgram [.pseudo (.keyRead k)] s) = exec .keyRead { s with arg0 := k })
      ∧ (∀ k, Sys2Proof.core.run 2 (loadProgram [.pseudo (.keyReadC k)] s) = exec .keyReadC { s with arg0 := k })

/-- 00_scope R8: from every state, with CFG = 1 or not, a COUNT event comes after finitely many steps, unless a step
before it is refused; so COUNT events occur infinitely often in every run that no step ends (log 2). -/
def Obligations.CountEventsComeInfinitelyOften : Prop :=
  ∀ s : State, ∃ k,
    (∃ t, Sys2Proof.core.run k s = .next t ∧ (nextTurn t).1 = .count)
      ∨ (∃ r, Sys2Proof.core.run k s = .refused r)

/-- 20_memory R68: only a COUNT step or RESET can make PHASE = IDLE. -/
def Obligations.OnlyCountOrResetEndsTheHold : Prop :=
  ∀ s t : State, step s = .next t → s.phase ≠ .idle → t.phase = .idle →
    (nextTurn s).1 = .count ∨ (nextTurn s).1 = .reset

/-- 10_state R30, R31, R34, 41_delay R160: while a wait goes on, no step changes it, RES0, RES1 or ERR. -/
def Obligations.StepsKeepTheWaitInProgress : Prop :=
  ∀ s t : State, step s = .next t → s.phase ≠ .idle → t.phase ≠ .idle →
    t.phase = s.phase ∧ t.dUnit = s.dUnit ∧ t.dStart = s.dStart ∧ t.dTarget = s.dTarget ∧ t.dbKey = s.dbKey
      ∧ t.res0 = s.res0 ∧ t.res1 = s.res1 ∧ t.err = s.err

/-- 20_memory R65: a bus read of a legal offset returns the register's value and changes no element, in any PHASE.
lastRead is where the model shows the value returned (log 5). -/
def Obligations.BusReadReturnsTheRegister : Prop :=
  ∀ (s : State) (r : Reg) (rest : List Line),
    s.params.wf = true →
    s.program = .host (.access (.read (s.params.base + regOffset r) .word)) :: rest →
    step s = .next { s with program := rest, lastRead := some (readReg r s) }

/-- 30_encoding R100: POLL reads STATUS, and is done once bit 0 of the value read is 0; until then it stays, and a COUNT
comes before its next read (log 3). The value read is shown in lastRead (log 5). -/
def Obligations.PollReadsStatusUntilNotBusy : Prop :=
  ∀ (s : State) (rest : List Line), s.program = .host .poll :: rest →
    step s = .next { s with
      lastRead := some (readReg .status s)
      program := if (readReg .status s).getLsbD 0 then .count 0 :: s.program else rest }

/-- 20_memory R62, the offset and the read value of each of the sixteen registers; 10_state R38, R42. The fields of the
STATUS, LATCH, PINS and PARAM views are in numbers. -/
def Obligations.RegisterOffsetsAndReadValues : Prop :=
  ([.cmd, .arg0, .arg1, .arg2, .res0, .res1, .status, .elapsed, .cvr, .reload, .usPerUnit, .msPerUnit, .tickPeriod,
      .latch, .pins, .param].map regOffset
    = [0x00, 0x04, 0x08, 0x0C, 0x10, 0x14, 0x18, 0x1C, 0x20, 0x24, 0x28, 0x2C, 0x30, 0x34, 0x38, 0x3C])
    ∧ ∀ s : State,
      (readReg .cmd s = 0#32 ∧ readReg .arg0 s = s.arg0 ∧ readReg .arg1 s = s.arg1 ∧ readReg .arg2 s = s.arg2
        ∧ readReg .res0 s = s.res0 ∧ readReg .res1 s = s.res1 ∧ readReg .elapsed s = s.elapsed
        ∧ readReg .cvr s = s.cvr ∧ readReg .reload s = s.reload ∧ readReg .usPerUnit s = s.usPerUnit
        ∧ readReg .msPerUnit s = s.msPerUnit ∧ (readReg .tickPeriod s).toNat = s.tickPeriod.toNat)
        ∧ (readReg .status s).toNat
            = (if s.phase = .idle then 0 else 1) + (if s.cfg then 2 else 0) + 4 * (phaseBits s.phase).toNat
              + 256 * (errBits s.err).toNat
        ∧ (s.params.wf = true →
            (readReg .latch s).toNat = s.latch.toNat % 2 ^ s.params.numKeys
              ∧ (readReg .pins s).toNat = s.pinLevel.toNat % 2 ^ s.params.numKeys
              ∧ (readReg .param s).toNat
                = s.params.counterWidth + 256 * s.params.prioBits + 65536 * s.params.numKeys + 16777216 * 10)

/-- 10_state R40, R33, R32 and 60_exceptions R222: the STATUS word, field by field. -/
def Obligations.StatusShowsEveryFlag : Prop :=
  ∀ s : State,
    (readReg .status s).toNat
      = (if s.phase = .idle then 0 else 1)
        + (if s.cfg then 2 else 0)
        + (match s.phase with | .idle => 0 | .delay => 4 | .debounce => 8)
        + (match s.err with
            | .ok => 0
            | .illegalOp => 0x100
            | .reservedBits => 0x200
            | .notConfigured => 0x300
            | .alreadyConfigured => 0x400
            | .badBusFreq => 0x500
            | .badTickPeriod => 0x600
            | .tickNotDivisor => 0x700
            | .reloadRange => 0x800)

/-- 60_exceptions R223 and 10_state R32: STATUS never shows an ERR of 9 to 15 or a PHASE of 3. -/
def Obligations.StatusNeverShowsUnusedCodes : Prop :=
  ∀ s : State, (readReg .status s).toNat / 256 ≤ 8 ∧ (readReg .status s).toNat / 4 % 4 ≠ 3

/-- 10_state R39: bit k - 1 of the LATCH and PINS views is the bit of key k for k in 1..K, the others are 0. -/
def Obligations.KeyViewsHaveOneBitPerKey : Prop :=
  ∀ (s : State) (k : Nat), s.params.wf = true → 1 ≤ k → k ≤ 32 →
    (readReg .latch s).getLsbD (k - 1) = (decide (k ≤ s.params.numKeys) && latchOf s k)
      ∧ (readReg .pins s).getLsbD (k - 1) = (decide (k ≤ s.params.numKeys) && pinOf s k)

/-- 10_state R41: PARAM is the constant of W, N, K and DEBOUNCE_MS; with the defaults it reads 0x0A020418. -/
def Obligations.ParamHoldsTheParameters : Prop :=
  (∀ s : State, s.params.wf = true →
    (readReg .param s).toNat
      = s.params.counterWidth + 256 * s.params.prioBits + 65536 * s.params.numKeys + 16777216 * 10)
    ∧ ∀ s : State, s.params = Params.default → readReg .param s = 0x0A020418#32

/-- 20_memory R66, R62: whatever PHASE is, a write to an ARG register writes it, and a write to a read-only register
changes nothing of the block. -/
def Obligations.BusWriteOfTheOtherRegisters : Prop :=
  ∀ (s : State) (r : Reg) (v : Word) (rest : List Line),
    s.params.wf = true → r ≠ .cmd →
    s.program = .host (.access (.write (s.params.base + regOffset r) .word v)) :: rest →
    step s = .next
      (if r = .arg0 then { s with program := rest, arg0 := v }
       else if r = .arg1 then { s with program := rest, arg1 := v }
       else if r = .arg2 then { s with program := rest, arg2 := v }
       else { s with program := rest })

/-- 20_memory R64, R61: an access inside the window of a wrong width or alignment is refused as a bus error, in any
PHASE and whatever it would write; an access outside the window is refused under a name of its own (the model's choice,
log 11, log 12). -/
def Obligations.IllegalAccessesAreRefused : Prop :=
  ∀ (s : State) (addr : Nat) (size : AccessSize) (v : Word) (rest : List Line),
    (s.program = .host (.access (.read addr size)) :: rest
      ∨ s.program = .host (.access (.write addr size v)) :: rest) →
    (s.params.base ≤ addr → addr < s.params.base + 0x40 → (size ≠ .word ∨ addr % 4 ≠ 0) →
        step s = .refused .busError)
      ∧ ((addr < s.params.base ∨ s.params.base + 0x40 ≤ addr) → step s = .refused .outsideWindow)

/-! ## Pins, RESET and the initial state -/

/-- 43_debounce R191: a pin event sets the level of one key's pin and changes nothing else. -/
def Obligations.PinEventChangesOnePinOnly : Prop :=
  ∀ (s : State) (k : Nat) (level : Bool) (rest : List Line),
    s.params.wf = true → s.program = .pin k level :: rest → 1 ≤ k → k ≤ s.params.numKeys →
    ∃ t, step s = .next t ∧ pinOf t k = level
      ∧ (∀ j, 1 ≤ j → j ≤ s.params.numKeys → j ≠ k → pinOf t j = pinOf s j)
      ∧ t = { s with program := rest, pinLevel := t.pinLevel }

/-- 10_state R37, 70_reset R250: no step but a pin event changes a pin level, RESET among them. -/
def Obligations.OnlyPinEventsChangePins : Prop :=
  ∀ s t : State, step s = .next t → t.pinLevel ≠ s.pinLevel → ∃ k level, (nextTurn s).1 = .pin k level

/-- 10_state R49, 70_reset R250: RESET, whatever PHASE is, writes every state element its reset value and keeps the
parameters and the pin levels. The lines still to come stay as the model holds them (log 4), and so does what the Host
has read (log 5). A CMD write held across RESET stays the next line. STATUS then reads 0, and PARAM 0x0A020418 with the
defaults. -/
def Obligations.ResetWritesEveryElement : Prop :=
  ∀ (s : State) (rest kept : List Line),
    (s.program = .reset :: rest ∧ kept = rest)
      ∨ (∃ v after, s.params.wf = true ∧ s.phase ≠ .idle
          ∧ s.program = .host (.access (.write s.params.base .word v)) :: .reset :: after
          ∧ kept = .host (.access (.write s.params.base .word v)) :: after) →
    ∃ t, step s = .next t
      ∧ t =
        { params := s.params, pinLevel := s.pinLevel, program := kept, round := s.round, lastRead := s.lastRead
          elapsed := 0#32, usPerUnit := 0#32, msPerUnit := 0#32, tickPeriod := 0#8, reload := 0#32, cvr := 0#32
          cfg := false, arg0 := 0#32, arg1 := 0#32, arg2 := 0#32, res0 := 0#32, res1 := 0#32, err := .ok
          phase := .idle, dUnit := .ms, dStart := 0#32, dTarget := 0#32, dbKey := 0#32, latch := 0#32 }
      ∧ readReg .status t = 0#32 ∧ (s.params = Params.default → readReg .param t = 0x0A020418#32)

/-- 70_reset R251: in the initial state STATUS reads 0, LATCH reads 0, CMD reads 0 and PARAM reads 0x0A020418, and the
elements hold the values of 10_state R49. -/
def Obligations.InitialStateReadsAsAfterReset : Prop :=
  readReg .status State.reset = 0#32 ∧ readReg .latch State.reset = 0#32 ∧ readReg .cmd State.reset = 0#32
    ∧ readReg .param State.reset = 0x0A020418#32
    ∧ ([.arg0, .arg1, .arg2, .res0, .res1, .elapsed, .cvr, .reload, .usPerUnit, .msPerUnit, .tickPeriod].map
        (fun r => readReg r State.reset) = List.replicate 11 0#32)
    ∧ State.reset.dUnit = .ms ∧ State.reset.dStart = 0#32 ∧ State.reset.dTarget = 0#32 ∧ State.reset.dbKey = 0#32

/-! ## The clock -/

/-- 40_clock R125: the state after a successful INIT. -/
def Obligations.InitConfiguresTheClock : Prop :=
  ∀ s : State, s.params.wf = true → s.cfg = false →
    s.arg0.toNat ≠ 0 → s.arg0.toNat % 1000000 = 0 → 1 ≤ s.arg1.toNat → s.arg1.toNat ≤ 255 →
    counterMax s.params % s.arg1.toNat = 0 →
    s.arg1.toNat * (s.arg0.toNat / 1000) - 1 ≤ counterMax s.params →
    ∃ t, exec .init s = .next t
      ∧ t.usPerUnit.toNat = s.arg0.toNat / 1000000 ∧ 1 ≤ t.usPerUnit.toNat
      ∧ t.msPerUnit.toNat = s.arg0.toNat / 1000 ∧ t.msPerUnit.toNat = 1000 * t.usPerUnit.toNat
      ∧ t.tickPeriod.toNat = s.arg1.toNat
      ∧ t.reload.toNat + 1 = s.arg1.toNat * t.msPerUnit.toNat
      ∧ t.elapsed = s.arg2 ∧ t.cvr = 0#32 ∧ t.cfg = true
      ∧ nowMsVal t = s.arg2 ∧ nowUsVal t = 1000#32 * s.arg2
      ∧ (s.phase = .idle → countEvent t = { t with cvr := t.reload, elapsed := s.arg2 + BitVec.ofNat 32 s.arg1.toNat })
      ∧ t = { s with
          usPerUnit := t.usPerUnit, msPerUnit := t.msPerUnit, tickPeriod := t.tickPeriod, reload := t.reload
          cvr := 0#32, elapsed := s.arg2, cfg := true, res0 := 0#32, res1 := 0#32, err := .ok }

/-- 40_clock R123, 60_exceptions R222, R224: INIT's checks in their order; a failed INIT changes only ERR and the
results. -/
def Obligations.InitFailsByTheFirstCheckThatApplies : Prop :=
  ∀ s : State, ∀ e : ErrCode,
    ((s.cfg = true ∧ e = .alreadyConfigured)
      ∨ (s.cfg = false ∧ (s.arg0.toNat = 0 ∨ s.arg0.toNat % 1000000 ≠ 0) ∧ e = .badBusFreq)
      ∨ (s.cfg = false ∧ s.arg0.toNat ≠ 0 ∧ s.arg0.toNat % 1000000 = 0
          ∧ (s.arg1.toNat = 0 ∨ 255 < s.arg1.toNat) ∧ e = .badTickPeriod)
      ∨ (s.cfg = false ∧ s.arg0.toNat ≠ 0 ∧ s.arg0.toNat % 1000000 = 0
          ∧ 1 ≤ s.arg1.toNat ∧ s.arg1.toNat ≤ 255
          ∧ (2 ^ s.params.counterWidth - 1) % s.arg1.toNat ≠ 0 ∧ e = .tickNotDivisor)
      ∨ (s.cfg = false ∧ s.arg0.toNat ≠ 0 ∧ s.arg0.toNat % 1000000 = 0
          ∧ 1 ≤ s.arg1.toNat ∧ s.arg1.toNat ≤ 255
          ∧ (2 ^ s.params.counterWidth - 1) % s.arg1.toNat = 0
          ∧ 2 ^ s.params.counterWidth - 1 < s.arg1.toNat * (s.arg0.toNat / 1000) - 1 ∧ e = .reloadRange)) →
    exec .init s = .next { s with err := e, res0 := 0#32, res1 := 0#32 }

/-- 40_clock R127: NOW_MS. With the invariant and a tick period of 1 the reading is ELAPSED. -/
def Obligations.NowMsReadsThePairInOneStep : Prop :=
  ∀ s : State,
    (s.cfg = true → s.msPerUnit ≠ 0#32 →
        exec .nowMs s = .next { s with res0 := s.elapsed - s.cvr / s.msPerUnit, res1 := 0#32, err := .ok })
      ∧ (Inv s → s.cfg = true → s.tickPeriod = 1#8 →
        exec .nowMs s = .next { s with res0 := s.elapsed, res1 := 0#32, err := .ok })
      ∧ (s.cfg = false → exec .nowMs s = .next { s with res0 := 0#32, res1 := 0#32, err := .notConfigured })

/-- 40_clock R128: NOW_US, each operation modulo 2^32. -/
def Obligations.NowUsReadsThePairInOneStep : Prop :=
  ∀ s : State,
    (s.cfg = true → s.usPerUnit ≠ 0#32 →
        exec .nowUs s = .next { s with res0 := s.elapsed * 1000#32 - s.cvr / s.usPerUnit, res1 := 0#32, err := .ok })
      ∧ (s.cfg = false → exec .nowUs s = .next { s with res0 := 0#32, res1 := 0#32, err := .notConfigured })

/-- 40_clock R129: SAMPLE returns ELAPSED and CVR of one step, and RES1 ≤ RELOAD < 2^W. -/
def Obligations.SampleReadsThePairInOneStep : Prop :=
  ∀ s : State,
    (s.cfg = true → exec .sample s = .next { s with res0 := s.elapsed, res1 := s.cvr, err := .ok })
      ∧ (Inv s → s.cfg = true → s.cvr.toNat ≤ s.reload.toNat ∧ s.reload.toNat < 2 ^ s.params.counterWidth)
      ∧ (s.cfg = false → exec .sample s = .next { s with res0 := 0#32, res1 := 0#32, err := .notConfigured })

/-- 40_clock R130: the source's formula on a SAMPLE result gives what NOW_MS and NOW_US give in that step. -/
def Obligations.SampleGivesTheSameReadings : Prop :=
  ∀ s : State, Inv s → s.cfg = true →
    ∃ p m u, exec .sample s = .next p ∧ exec .nowMs s = .next m ∧ exec .nowUs s = .next u
      ∧ m.res0 = p.res0 - p.res1 / s.msPerUnit ∧ u.res0 = p.res0 * 1000#32 - p.res1 / s.usPerUnit

/-- 60_exceptions R226, 43_debounce R206: NOT_CONFIGURED comes from exactly the clock commands, and from KEY_READ of a
valid key, while CFG = 0, and then nothing else changes. -/
def Obligations.NotConfiguredExactlyForClockCommands : Prop :=
  ∀ (i : Instr) (s t : State), exec i s = .next t →
    (t.err = .notConfigured ↔
      s.cfg = false
        ∧ (i = .nowMs ∨ i = .nowUs ∨ i = .sample ∨ i = .delayMs ∨ i = .delayUs
          ∨ ((i = .keyRead ∨ i = .keyReadC) ∧ 1 ≤ s.arg0.toNat ∧ s.arg0.toNat ≤ s.params.numKeys)))
      ∧ (t.err = .notConfigured → t = { s with res0 := 0#32, res1 := 0#32, err := .notConfigured })

/-- 40_clock R131 while no command is in progress: COUNT changes nothing while CFG = 0; with CVR = 0 it reloads and
ticks; otherwise it decrements. The COUNT may be one that the model's own order of events brings (log 2, log 3). -/
def Obligations.CountEventWhileIdle : Prop :=
  ∀ s u : State, CountNext s u → s.phase = .idle →
    (s.cfg = false → step s = .next u)
      ∧ (s.cfg = true → s.cvr = 0#32 →
        step s = .next { u with cvr := s.reload, elapsed := s.elapsed + BitVec.ofNat 32 s.tickPeriod.toNat })
      ∧ (s.cfg = true → s.cvr ≠ 0#32 → step s = .next { u with cvr := s.cvr - 1#32 })
      ∧ u = { s with program := u.program, round := u.round }

/-- 40_clock R133: the closed forms of the clock, n COUNT events after a successful INIT with no RESET between. -/
def Obligations.ClockFollowsItsClosedForms : Prop :=
  ∀ (s : State) (n : Nat), JustConfigured s →
    ((counts 0 s).cvr = 0#32 ∧ nowMsVal s = s.elapsed ∧ nowUsVal s = 1000#32 * s.elapsed)
      ∧ (1 ≤ n →
        (counts n s).cvr.toNat = s.reload.toNat - (n - 1) % (s.reload.toNat + 1)
          ∧ (counts n s).elapsed
            = s.elapsed + BitVec.ofNat 32 (s.tickPeriod.toNat * (1 + (n - 1) / (s.reload.toNat + 1)))
          ∧ nowMsVal (counts n s) = s.elapsed + 1#32 + BitVec.ofNat 32 ((n - 1) / s.msPerUnit.toNat)
          ∧ nowUsVal (counts n s) = 1000#32 * s.elapsed + 1#32 + BitVec.ofNat 32 ((n - 1) / s.usPerUnit.toNat))

/-- 40_clock R134: before the microsecond reading wraps, the millisecond reading is the microsecond reading rounded
up. -/
def Obligations.MillisecondsAreMicrosecondsRoundedUp : Prop :=
  ∀ (s : State) (n : Nat), JustConfigured s →
    1000 * s.elapsed.toNat + 1 + n / s.usPerUnit.toNat < 2 ^ 32 →
    (nowMsVal (counts n s)).toNat = ((nowUsVal (counts n s)).toNat + 999) / 1000

/-- 40_clock R135: two readings of one unit less than 2^31 units apart never step back, in the signed difference, across
a wrap as well. -/
def Obligations.ReadingsNeverStepBack : Prop :=
  ∀ (s : State) (u : TimeUnit) (n : Nat), Inv s → s.cfg = true → n ≤ unitCounts u s * (2 ^ 31 - 1) →
    0 ≤ signed32 (nowVal u (counts n s) - nowVal u s)

/-- 10_state R21: ELAPSED is written by a successful INIT (the seed), by the tick (plus TICK_PERIOD) and by RESET, and
by no other step. -/
def Obligations.ElapsedHasOneWriterOutsideInit : Prop :=
  ∀ s t : State, step s = .next t → t.elapsed ≠ s.elapsed →
    (nextTurn s).1 = .reset
      ∨ ((nextTurn s).1 = .count ∧ s.cfg = true ∧ s.cvr = 0#32 ∧ t.cvr = s.reload
        ∧ t.elapsed = s.elapsed + BitVec.ofNat 32 s.tickPeriod.toNat)
      ∨ (IssueNext s .init ∧ s.phase = .idle ∧ s.cfg = false ∧ t.cfg = true ∧ t.elapsed = s.arg2)

/-- 10_state R22, R23, R24, R26: once configured, the configuration stays until RESET, and before a successful INIT no
step changes it. -/
def Obligations.ConfigurationIsSetOncePerReset : Prop :=
  ∀ s t : State, step s = .next t → (nextTurn s).1 ≠ .reset →
    (s.cfg = true → t.cfg = true) ∧
    (s.cfg = t.cfg →
      t.usPerUnit = s.usPerUnit ∧ t.msPerUnit = s.msPerUnit ∧ t.tickPeriod = s.tickPeriod ∧ t.reload = s.reload) ∧
    (s.cfg = false → t.cfg = true → IssueNext s .init ∧ t.err = .ok)

/-- 41_delay R153: while CFG = 1 the readings change only in COUNT steps (and RESET). -/
def Obligations.ReadingsChangeOnlyInCountSteps : Prop :=
  ∀ (s t : State) (u : TimeUnit), step s = .next t → s.cfg = true →
    (nextTurn s).1 ≠ .count → (nextTurn s).1 ≠ .reset → nowVal u t = nowVal u s

/-- 70_reset R265: ELAPSED and CVR read as two bus reads are not one observation: a tick between them can make the
combined value jump back behind a reading already given, or ahead of the true one. -/
def Obligations.TwoSeparateReadsCanTear : Prop :=
  ∃ s : State, Inv s ∧ s.cfg = true ∧ s.phase = .idle
    ∧ signed32 ((readReg .elapsed s * 1000#32 - readReg .cvr (countEvent s) / s.usPerUnit) - nowUsVal s) < 0
    ∧ 0 < signed32 ((readReg .elapsed (countEvent s) * 1000#32 - readReg .cvr s / s.usPerUnit)
        - nowUsVal (countEvent s))

/-- 70_reset R266: if ELAPSED reads the same before and after n COUNT events, no tick fell between (for any n short of
2^24 tick periods), so a CVR read between belongs with it. -/
def Obligations.RetryLoopDetectsEveryTick : Prop :=
  ∀ (s : State) (n j : Nat), Inv s → s.cfg = true → n < (s.reload.toNat + 1) * 2 ^ 24 → j ≤ n →
    (counts n s).elapsed = s.elapsed → (counts j s).elapsed = s.elapsed ∧ (counts j s).cvr.toNat + j = s.cvr.toNat

/-! ## The delay engine -/

/-- 41_delay R151, R152, R157: the issue of DELAY_MS and DELAY_US. n = 0 and n above 2^31 complete in the issue step;
any other n starts the wait. -/
def Obligations.DelayIssueWaitsOrCompletes : Prop :=
  ∀ (s : State) (i : Instr) (u : TimeUnit), s.cfg = true →
    ((i = .delayMs ∧ u = .ms) ∨ (i = .delayUs ∧ u = .us)) →
    exec i s = .next
      (if s.arg0.toNat = 0 ∨ 2 ^ 31 < s.arg0.toNat then
        { s with
          dUnit := u, dStart := nowVal u s, dTarget := nowVal u s + s.arg0
          res0 := nowVal u s, res1 := nowVal u s, phase := .idle, err := .ok }
      else
        { s with
          dUnit := u, dStart := nowVal u s, dTarget := nowVal u s + s.arg0, phase := .delay, err := .ok })

/-- 41_delay R153, R154: a COUNT while a delay waits. The counter steps; the delay completes exactly when the signed
difference of the fresh reading and the target is not negative. The COUNT may be one that the model's own order of
events brings (log 2, log 3). -/
def Obligations.DelayCompletesAtTheFirstPassingCount : Prop :=
  ∀ s u : State, CountNext s u → s.cfg = true → s.phase = .delay →
    ∃ c, c = (if s.cvr = 0#32 then
          { s with
            program := u.program, round := u.round
            cvr := s.reload, elapsed := s.elapsed + BitVec.ofNat 32 s.tickPeriod.toNat }
        else { s with program := u.program, round := u.round, cvr := s.cvr - 1#32 })
      ∧ (signed32 (nowVal s.dUnit c - s.dTarget) < 0 → step s = .next c)
      ∧ (0 ≤ signed32 (nowVal s.dUnit c - s.dTarget) →
        step s = .next { c with res0 := s.dStart, res1 := nowVal s.dUnit c, phase := .idle })

/-- 41_delay R156: a delay of 1 ≤ n ≤ 2^31 units issued t0 COUNT events after INIT completes after exactly c more, with
the start sample in RES0 and the sample n units on in RES1. -/
def Obligations.DelayCompletesAfterExactlyCCounts : Prop :=
  ∀ (s w : State) (t0 c : Nat) (n : Word) (i : Instr) (u : TimeUnit),
    JustConfigured s → 1 ≤ n.toNat → n.toNat ≤ 2 ^ 31 →
    ((i = .delayMs ∧ u = .ms) ∨ (i = .delayUs ∧ u = .us)) →
    exec i { counts t0 s with arg0 := n } = .next w →
    c = (if t0 = 0 then unitCounts u s * (n.toNat - 1) + 1
        else unitCounts u s * n.toNat - (t0 - 1) % unitCounts u s) →
    (∀ j, j < c → (counts j w).phase = .delay)
      ∧ (counts c w).phase = .idle ∧ (counts c w).res0 = nowVal u (counts t0 s)
      ∧ (counts c w).res1 = nowVal u (counts t0 s) + n
      ∧ unitCounts u s * (n.toNat - 1) + 1 ≤ c ∧ c ≤ unitCounts u s * n.toNat

/-- 70_reset R281, 41_delay R156, 00_scope R8: a run with no line left whose last command is still BUSY goes on with
COUNT events until the command completes, at the latest after 2^31 units, and is then over. -/
def Obligations.RunningCounterEndsEveryWait : Prop :=
  ∀ s : State, Inv s → s.program = [] → s.phase ≠ .idle →
    ∃ k, 1 ≤ k ∧ k ≤ unitCounts s.dUnit s * 2 ^ 31
      ∧ Sys2Proof.core.run k s = .next (counts k s) ∧ RunEnded (counts k s)
      ∧ ∀ j, j < k → ¬RunEnded (counts j s)

/-! ## The priority codec -/

/-- 42_priority_codec R172, R171: ENCODE, in numbers, for every group width. -/
def Obligations.EncodePacksTheField : Prop :=
  ∀ (s : State) (g : Nat), s.params.wf = true → g = min s.arg0.toNat s.params.prioBits →
    exec .encode s = .next { s with
        res0 := BitVec.ofNat 32
          (s.arg1.toNat % 2 ^ g * 2 ^ (s.params.prioBits - g) + s.arg2.toNat % 2 ^ (s.params.prioBits - g))
        res1 := 0#32, err := .ok }
      ∧ s.arg1.toNat % 2 ^ g * 2 ^ (s.params.prioBits - g) + s.arg2.toNat % 2 ^ (s.params.prioBits - g)
        < 2 ^ s.params.prioBits

/-- 42_priority_codec R173: DECODE, in numbers; bits 31:N of ARG1 are ignored. -/
def Obligations.DecodeSplitsTheField : Prop :=
  ∀ (s : State) (g : Nat), s.params.wf = true → g = min s.arg0.toNat s.params.prioBits →
    exec .decode s = .next { s with
      res0 := BitVec.ofNat 32 (s.arg1.toNat % 2 ^ s.params.prioBits / 2 ^ (s.params.prioBits - g))
      res1 := BitVec.ofNat 32 (s.arg1.toNat % 2 ^ (s.params.prioBits - g)), err := .ok }

/-- 42_priority_codec R174: DECODE of an ENCODE's RES0 with the same group width gives the inputs back, masked. -/
def Obligations.CodecRoundTripGivesMaskedInputs : Prop :=
  ∀ (s t : State) (g : Nat), s.params.wf = true → g = min s.arg0.toNat s.params.prioBits →
    exec .encode s = .next t →
    ∃ u, exec .decode { t with arg1 := t.res0 } = .next u
      ∧ u.res0.toNat = s.arg1.toNat % 2 ^ g ∧ u.res1.toNat = s.arg2.toNat % 2 ^ (s.params.prioBits - g)

/-- 42_priority_codec R175: every group width of N or more gives the results of N, and none is an error. -/
def Obligations.GroupWidthIsClampedToN : Prop :=
  ∀ (s : State) (gw : Word) (i : Instr), s.params.wf = true → s.params.prioBits ≤ gw.toNat →
    (i = .encode ∨ i = .decode) →
    ∃ t u, exec i { s with arg0 := gw } = .next t
      ∧ exec i { s with arg0 := BitVec.ofNat 32 s.params.prioBits } = .next u
      ∧ t.res0 = u.res0 ∧ t.res1 = u.res1 ∧ t.err = .ok ∧ u.err = .ok

/-! ## The debouncer -/

/-- 43_debounce R201: an invalid key gives no press in either mode, whether or not CFG = 1, and changes no latch. -/
def Obligations.InvalidKeyGivesNoPress : Prop :=
  ∀ (s : State) (i : Instr), (i = .keyRead ∨ i = .keyReadC) →
    (s.arg0.toNat = 0 ∨ s.params.numKeys < s.arg0.toNat) →
    exec i s = .next { s with res0 := 0#32, res1 := 0#32, err := .ok }

/-- 43_debounce R195, R198, the rows of a valid key without a wait: an inactive pin releases the latch in both modes, an
active pin already latched in one-shot mode keeps it; no press either way. -/
def Obligations.KeyReadWithoutWaitGivesNoPress : Prop :=
  ∀ (s : State) (i : Instr), s.params.wf = true → s.cfg = true →
    1 ≤ s.arg0.toNat → s.arg0.toNat ≤ s.params.numKeys →
    (((i = .keyRead ∨ i = .keyReadC) ∧ active s s.arg0.toNat = false)
      ∨ (i = .keyRead ∧ active s s.arg0.toNat = true ∧ latchOf s s.arg0.toNat = true)) →
    ∃ t, exec i s = .next t
      ∧ latchOf t s.arg0.toNat = active s s.arg0.toNat
      ∧ (∀ j, 1 ≤ j → j ≤ s.params.numKeys → j ≠ s.arg0.toNat → latchOf t j = latchOf s j)
      ∧ t = { s with res0 := 0#32, res1 := 0#32, err := .ok, latch := t.latch }

/-- 43_debounce R196: an active pin with the latch Released, or in continuous mode with any latch, starts the wait of
10 ms in the issue step; RES0 and RES1 keep their values. -/
def Obligations.KeyReadStartsTheDebounceWait : Prop :=
  ∀ (s : State) (i : Instr), s.params.wf = true → s.cfg = true →
    1 ≤ s.arg0.toNat → s.arg0.toNat ≤ s.params.numKeys → active s s.arg0.toNat = true →
    ((i = .keyRead ∧ latchOf s s.arg0.toNat = false) ∨ i = .keyReadC) →
    ∃ t, exec i s = .next t
      ∧ latchOf t s.arg0.toNat = false
      ∧ (∀ j, 1 ≤ j → j ≤ s.params.numKeys → j ≠ s.arg0.toNat → latchOf t j = latchOf s j)
      ∧ t = { s with
          dUnit := .ms, dStart := nowMsVal s, dTarget := nowMsVal s + 10#32, dbKey := s.arg0
          phase := .debounce, err := .ok, latch := t.latch }

/-- 43_debounce R197: a COUNT while a debounce wait is in progress. If the check does not pass, the wait goes on; if it
does, the second sample decides the report and the latch of DB_KEY. The COUNT may be one that the model's own order of
events brings (log 2, log 3). -/
def Obligations.DebounceCompletesBySecondSample : Prop :=
  ∀ s u : State, Inv s → CountNext s u → s.phase = .debounce →
    ∃ c, c = (if s.cvr = 0#32 then
          { s with
            program := u.program, round := u.round
            cvr := s.reload, elapsed := s.elapsed + BitVec.ofNat 32 s.tickPeriod.toNat }
        else { s with program := u.program, round := u.round, cvr := s.cvr - 1#32 })
      ∧ (signed32 (nowMsVal c - s.dTarget) < 0 → step s = .next c)
      ∧ (0 ≤ signed32 (nowMsVal c - s.dTarget) → active s s.dbKey.toNat = false →
        step s = .next { c with res0 := 0#32, res1 := 0#32, phase := .idle })
      ∧ (0 ≤ signed32 (nowMsVal c - s.dTarget) → active s s.dbKey.toNat = true →
        ∃ t, step s = .next t ∧ latchOf t s.dbKey.toNat = true
          ∧ (∀ j, 1 ≤ j → j ≤ s.params.numKeys → j ≠ s.dbKey.toNat → latchOf t j = latchOf s j)
          ∧ t = { c with res0 := 1#32, res1 := s.dbKey, phase := .idle, latch := t.latch })

/-- 43_debounce R204, R202, R198: a KEY_READ that starts its wait t0 COUNT events after INIT completes after exactly c
more; whatever the pins do meanwhile (here: they become `pins` after j counts), only the level at the end decides
whether the press is reported and latched. -/
def Obligations.KeyPressIsDecidedAfterExactlyCCounts : Prop :=
  ∀ (s w : State) (t0 c j : Nat) (k : Word) (i : Instr) (pins : Word),
    JustConfigured s → 1 ≤ k.toNat → k.toNat ≤ s.params.numKeys → active s k.toNat = true →
    ((i = .keyRead ∧ latchOf s k.toNat = false) ∨ i = .keyReadC) →
    exec i { counts t0 s with arg0 := k } = .next w →
    c = (if t0 = 0 then s.msPerUnit.toNat * 9 + 1 else s.msPerUnit.toNat * 10 - (t0 - 1) % s.msPerUnit.toNat) →
    j < c →
    (∀ m, m < c → (counts m w).phase = .debounce ∧ latchOf (counts m w) k.toNat = false)
      ∧ (counts (c - j) { counts j w with pinLevel := pins }).phase = .idle
      ∧ (bankBit pins k.toNat = bankBit s.params.activeLevel k.toNat →
        (counts (c - j) { counts j w with pinLevel := pins }).res0 = 1#32
          ∧ (counts (c - j) { counts j w with pinLevel := pins }).res1 = k
          ∧ latchOf (counts (c - j) { counts j w with pinLevel := pins }) k.toNat = true)
      ∧ (bankBit pins k.toNat ≠ bankBit s.params.activeLevel k.toNat →
        (counts (c - j) { counts j w with pinLevel := pins }).res0 = 0#32
          ∧ (counts (c - j) { counts j w with pinLevel := pins }).res1 = 0#32
          ∧ latchOf (counts (c - j) { counts j w with pinLevel := pins }) k.toNat = false)

/-- 10_state R36, 43_debounce R198, R203: a latch changes only by RESET, by the issue of a KEY_READ of its own key
(a write to CMD of a word that decodes to KEY_READ or KEY_READ.C, which can only release it), or by the debounce
completion of its own key (which can only press it). -/
def Obligations.LatchesChangeOnlyByTheirOwnKey : Prop :=
  ∀ (s t : State) (k : Nat), Inv s → step s = .next t → 1 ≤ k → k ≤ s.params.numKeys → latchOf t k ≠ latchOf s k →
    (nextTurn s).1 = .reset
      ∨ ((IssueNext s .keyRead ∨ IssueNext s .keyReadC)
        ∧ s.phase = .idle ∧ s.cfg = true ∧ s.arg0.toNat = k ∧ latchOf t k = false)
      ∨ ((nextTurn s).1 = .count ∧ s.phase = .debounce ∧ s.dbKey.toNat = k ∧ t.phase = .idle ∧ latchOf t k = true
        ∧ t.res0 = 1#32 ∧ t.res1 = s.dbKey)

/-! ## Frames -/

/-- 10_state R29, R37, 00_scope R9: no command writes an ARG register, a pin level or a parameter. -/
def Obligations.CommandsNeverWriteArgumentsOrPins : Prop :=
  ∀ (i : Instr) (s t : State), exec i s = .next t →
    t.params = s.params ∧ t.arg0 = s.arg0 ∧ t.arg1 = s.arg1 ∧ t.arg2 = s.arg2 ∧ t.pinLevel = s.pinLevel
      ∧ t.program = s.program ∧ t.round = s.round ∧ t.lastRead = s.lastRead

/-- 40_clock R127 to R129, 42_priority_codec R172, R173: NOW_MS, NOW_US, SAMPLE, ENCODE and DECODE write RES0, RES1 and
ERR only: every register of the window but RES0, RES1 and STATUS reads as before. -/
def Obligations.ReadingAndCodecCommandsFrame : Prop :=
  ∀ (i : Instr) (s t : State), (i = .nowMs ∨ i = .nowUs ∨ i = .sample ∨ i = .encode ∨ i = .decode) →
    exec i s = .next t →
    t = { s with res0 := t.res0, res1 := t.res1, err := t.err }
      ∧ ∀ r, r ≠ .res0 → r ≠ .res1 → r ≠ .status → readReg r t = readReg r s

/-- 40_clock R123: INIT writes the clock elements, CFG, RES0, RES1 and ERR only; PHASE, the wait state and the latches
stay. -/
def Obligations.InitFrame : Prop :=
  ∀ s t : State, exec .init s = .next t →
    t.phase = s.phase ∧ t.dUnit = s.dUnit ∧ t.dStart = s.dStart ∧ t.dTarget = s.dTarget ∧ t.dbKey = s.dbKey
      ∧ t.latch = s.latch
      ∧ (t.err ≠ .ok → t = { s with res0 := 0#32, res1 := 0#32, err := t.err })
      ∧ (∀ r, r = .arg0 ∨ r = .arg1 ∨ r = .arg2 ∨ r = .latch ∨ r = .pins ∨ r = .param ∨ r = .cmd →
          readReg r t = readReg r s)

/-- 41_delay R151, R152, 43_debounce R195: DELAY_MS, DELAY_US, KEY_READ and KEY_READ.C write no clock element and not
CFG; the delays write no latch and not DB_KEY. -/
def Obligations.WaitCommandsFrame : Prop :=
  ∀ (i : Instr) (s t : State), (i = .delayMs ∨ i = .delayUs ∨ i = .keyRead ∨ i = .keyReadC) →
    exec i s = .next t →
    (∀ r, r = .elapsed ∨ r = .cvr ∨ r = .reload ∨ r = .usPerUnit ∨ r = .msPerUnit ∨ r = .tickPeriod ∨ r = .pins
        ∨ r = .param ∨ r = .arg0 ∨ r = .arg1 ∨ r = .arg2 ∨ r = .cmd → readReg r t = readReg r s)
      ∧ t.cfg = s.cfg
      ∧ ((i = .delayMs ∨ i = .delayUs) → t.latch = s.latch ∧ t.dbKey = s.dbKey)

/-! ## Invariants -/

/-- 10_state R27, R28, R35, R36, 41_delay R153, 43_debounce R197: every step keeps the invariant, from every state that
has it. -/
def Obligations.EveryStepKeepsTheInvariant : Prop :=
  ∀ s t : State, Inv s → step s = .next t → Inv t

/-- 10_state R49, R28: the reset state has the invariant, for every choice of parameters in range and all pin levels. -/
def Obligations.ResetStateHasTheInvariant : Prop :=
  (∀ (p : Params) (pins : Word), p.wf = true → Inv (State.atReset p pins)) ∧ Inv State.reset
end

