-- ==== Sys2Proof/Laws/Bits.lean ====
section
/-! SUPPORT. Masks as remainders, the bits of a key bank, and the signed reading of a difference. -/

namespace Sys2Proof.Machine

theorem mask_toNat {w : Nat} (h : w ≤ 32) : (mask w).toNat = 2 ^ w - 1 := by
  have : 2 ^ w ≤ 2 ^ 32 := Nat.pow_le_pow_right (by decide) h
  simp only [mask, BitVec.toNat_ofNat]
  exact Nat.mod_eq_of_lt (by have := Nat.two_pow_pos w; omega)

theorem and_mask_toNat (v : Word) {w : Nat} (h : w ≤ 32) : (v &&& mask w).toNat = v.toNat % 2 ^ w := by
  rw [BitVec.toNat_and, mask_toNat h, Nat.and_two_pow_sub_one_eq_mod]

theorem getLsbD_and_mask (v : Word) {w : Nat} (h : w ≤ 32) (i : Nat) :
    (v &&& mask w).getLsbD i = (decide (i < w) && v.getLsbD i) := by
  simp only [BitVec.getLsbD, and_mask_toNat v h, Nat.testBit_mod_two_pow]

theorem bankBit_setBankBit_same (bank : Word) {k : Nat} (h1 : 1 ≤ k) (h2 : k ≤ 32) (b : Bool) :
    bankBit (setBankBit bank k b) k = b := by
  have : k - 1 < 32 := by omega
  cases b <;> simp [bankBit, setBankBit, this]

theorem bankBit_setBankBit_other (bank : Word) {j k : Nat} (hj : 1 ≤ j) (hk : 1 ≤ k) (h : j ≠ k) (b : Bool) :
    bankBit (setBankBit bank k b) j = bankBit bank j := by
  have hne : k - 1 ≠ j - 1 := by omega
  have hge : ¬j - 1 < 32 → bank.getLsbD (j - 1) = false := fun h => BitVec.getLsbD_of_ge _ _ (by omega)
  by_cases hlt : j - 1 < 32 <;> cases b <;>
    simp [bankBit, setBankBit, BitVec.getLsbD_twoPow, hne, hne.symm, hlt]
  exact hge hlt

/-- Setting the bit of a key in 1..K keeps a bank below 2^K. -/
theorem setBankBit_lt (bank : Word) {k n : Nat} (h1 : 1 ≤ k) (h2 : k ≤ n) (hn : n ≤ 32) (b : Bool)
    (h : bank.toNat < 2 ^ n) : (setBankBit bank k b).toNat < 2 ^ n := by
  cases b
  · exact lt_of_le_of_lt (by simpa [setBankBit] using Nat.and_le_left) h
  · have hp : (2 : Nat) ^ (k - 1) < 2 ^ n := Nat.pow_lt_pow_right (by decide) (by omega)
    have hp' : (2 : Nat) ^ (k - 1) < 2 ^ 32 := Nat.pow_lt_pow_right (by decide) (by omega)
    rw [setBankBit, if_pos rfl, BitVec.toNat_or, BitVec.toNat_twoPow, Nat.mod_eq_of_lt hp']
    exact Nat.or_lt_two_pow h hp

/-- The signed reading is negative exactly when the value is 2^31 or more. -/
theorem signed32_neg_iff (v : Word) : signed32 v < 0 ↔ 2 ^ 31 ≤ v.toNat := by
  have := v.isLt
  simp only [signed32, BitVec.toInt_eq_toNat_cond]
  split <;> omega

/-- Division by a word that is not zero is the quotient of the numbers. -/
theorem quotient_toNat (a : Word) {b : Word} (h : b.toNat ≠ 0) : (quotient a b).toNat = a.toNat / b.toNat := by
  have : b ≠ 0#32 := fun hb => h (by simp [hb])
  simp [quotient, this]

end Sys2Proof.Machine
end

