-- ==== Sys2Proof/Laws/State.lean ====
section
/-! SUPPORT. What each update of the state leaves in each field: true by rfl, and tagged for simp, so that no proof
unfolds a record update. -/

namespace Sys2Proof.Machine

@[simp] theorem complete_params (r0 r1 : Word) (s : State) : (complete r0 r1 s).params = s.params := rfl
@[simp] theorem complete_elapsed (r0 r1 : Word) (s : State) : (complete r0 r1 s).elapsed = s.elapsed := rfl
@[simp] theorem complete_usPerUnit (r0 r1 : Word) (s : State) : (complete r0 r1 s).usPerUnit = s.usPerUnit := rfl
@[simp] theorem complete_msPerUnit (r0 r1 : Word) (s : State) : (complete r0 r1 s).msPerUnit = s.msPerUnit := rfl
@[simp] theorem complete_tickPeriod (r0 r1 : Word) (s : State) : (complete r0 r1 s).tickPeriod = s.tickPeriod := rfl
@[simp] theorem complete_reload (r0 r1 : Word) (s : State) : (complete r0 r1 s).reload = s.reload := rfl
@[simp] theorem complete_cvr (r0 r1 : Word) (s : State) : (complete r0 r1 s).cvr = s.cvr := rfl
@[simp] theorem complete_cfg (r0 r1 : Word) (s : State) : (complete r0 r1 s).cfg = s.cfg := rfl
@[simp] theorem complete_arg0 (r0 r1 : Word) (s : State) : (complete r0 r1 s).arg0 = s.arg0 := rfl
@[simp] theorem complete_arg1 (r0 r1 : Word) (s : State) : (complete r0 r1 s).arg1 = s.arg1 := rfl
@[simp] theorem complete_arg2 (r0 r1 : Word) (s : State) : (complete r0 r1 s).arg2 = s.arg2 := rfl
@[simp] theorem complete_res0 (r0 r1 : Word) (s : State) : (complete r0 r1 s).res0 = r0 := rfl
@[simp] theorem complete_res1 (r0 r1 : Word) (s : State) : (complete r0 r1 s).res1 = r1 := rfl
@[simp] theorem complete_err (r0 r1 : Word) (s : State) : (complete r0 r1 s).err = .ok := rfl
@[simp] theorem complete_phase (r0 r1 : Word) (s : State) : (complete r0 r1 s).phase = s.phase := rfl
@[simp] theorem complete_dUnit (r0 r1 : Word) (s : State) : (complete r0 r1 s).dUnit = s.dUnit := rfl
@[simp] theorem complete_dStart (r0 r1 : Word) (s : State) : (complete r0 r1 s).dStart = s.dStart := rfl
@[simp] theorem complete_dTarget (r0 r1 : Word) (s : State) : (complete r0 r1 s).dTarget = s.dTarget := rfl
@[simp] theorem complete_dbKey (r0 r1 : Word) (s : State) : (complete r0 r1 s).dbKey = s.dbKey := rfl
@[simp] theorem complete_latch (r0 r1 : Word) (s : State) : (complete r0 r1 s).latch = s.latch := rfl
@[simp] theorem complete_pinLevel (r0 r1 : Word) (s : State) : (complete r0 r1 s).pinLevel = s.pinLevel := rfl
@[simp] theorem complete_program (r0 r1 : Word) (s : State) : (complete r0 r1 s).program = s.program := rfl
@[simp] theorem complete_round (r0 r1 : Word) (s : State) : (complete r0 r1 s).round = s.round := rfl
@[simp] theorem complete_lastRead (r0 r1 : Word) (s : State) : (complete r0 r1 s).lastRead = s.lastRead := rfl

@[simp] theorem fail_params (e : ErrCode) (s : State) : (fail e s).params = s.params := rfl
@[simp] theorem fail_elapsed (e : ErrCode) (s : State) : (fail e s).elapsed = s.elapsed := rfl
@[simp] theorem fail_usPerUnit (e : ErrCode) (s : State) : (fail e s).usPerUnit = s.usPerUnit := rfl
@[simp] theorem fail_msPerUnit (e : ErrCode) (s : State) : (fail e s).msPerUnit = s.msPerUnit := rfl
@[simp] theorem fail_tickPeriod (e : ErrCode) (s : State) : (fail e s).tickPeriod = s.tickPeriod := rfl
@[simp] theorem fail_reload (e : ErrCode) (s : State) : (fail e s).reload = s.reload := rfl
@[simp] theorem fail_cvr (e : ErrCode) (s : State) : (fail e s).cvr = s.cvr := rfl
@[simp] theorem fail_cfg (e : ErrCode) (s : State) : (fail e s).cfg = s.cfg := rfl
@[simp] theorem fail_arg0 (e : ErrCode) (s : State) : (fail e s).arg0 = s.arg0 := rfl
@[simp] theorem fail_arg1 (e : ErrCode) (s : State) : (fail e s).arg1 = s.arg1 := rfl
@[simp] theorem fail_arg2 (e : ErrCode) (s : State) : (fail e s).arg2 = s.arg2 := rfl
@[simp] theorem fail_res0 (e : ErrCode) (s : State) : (fail e s).res0 = 0#32 := rfl
@[simp] theorem fail_res1 (e : ErrCode) (s : State) : (fail e s).res1 = 0#32 := rfl
@[simp] theorem fail_err (e : ErrCode) (s : State) : (fail e s).err = e := rfl
@[simp] theorem fail_phase (e : ErrCode) (s : State) : (fail e s).phase = s.phase := rfl
@[simp] theorem fail_dUnit (e : ErrCode) (s : State) : (fail e s).dUnit = s.dUnit := rfl
@[simp] theorem fail_dStart (e : ErrCode) (s : State) : (fail e s).dStart = s.dStart := rfl
@[simp] theorem fail_dTarget (e : ErrCode) (s : State) : (fail e s).dTarget = s.dTarget := rfl
@[simp] theorem fail_dbKey (e : ErrCode) (s : State) : (fail e s).dbKey = s.dbKey := rfl
@[simp] theorem fail_latch (e : ErrCode) (s : State) : (fail e s).latch = s.latch := rfl
@[simp] theorem fail_pinLevel (e : ErrCode) (s : State) : (fail e s).pinLevel = s.pinLevel := rfl
@[simp] theorem fail_program (e : ErrCode) (s : State) : (fail e s).program = s.program := rfl
@[simp] theorem fail_round (e : ErrCode) (s : State) : (fail e s).round = s.round := rfl
@[simp] theorem fail_lastRead (e : ErrCode) (s : State) : (fail e s).lastRead = s.lastRead := rfl

@[simp] theorem setLatch_params (k : Nat) (b : Bool) (s : State) : (setLatch k b s).params = s.params := rfl
@[simp] theorem setLatch_elapsed (k : Nat) (b : Bool) (s : State) : (setLatch k b s).elapsed = s.elapsed := rfl
@[simp] theorem setLatch_usPerUnit (k : Nat) (b : Bool) (s : State) : (setLatch k b s).usPerUnit = s.usPerUnit := rfl
@[simp] theorem setLatch_msPerUnit (k : Nat) (b : Bool) (s : State) : (setLatch k b s).msPerUnit = s.msPerUnit := rfl
@[simp] theorem setLatch_tickPeriod (k : Nat) (b : Bool) (s : State) : (setLatch k b s).tickPeriod = s.tickPeriod := rfl
@[simp] theorem setLatch_reload (k : Nat) (b : Bool) (s : State) : (setLatch k b s).reload = s.reload := rfl
@[simp] theorem setLatch_cvr (k : Nat) (b : Bool) (s : State) : (setLatch k b s).cvr = s.cvr := rfl
@[simp] theorem setLatch_cfg (k : Nat) (b : Bool) (s : State) : (setLatch k b s).cfg = s.cfg := rfl
@[simp] theorem setLatch_arg0 (k : Nat) (b : Bool) (s : State) : (setLatch k b s).arg0 = s.arg0 := rfl
@[simp] theorem setLatch_arg1 (k : Nat) (b : Bool) (s : State) : (setLatch k b s).arg1 = s.arg1 := rfl
@[simp] theorem setLatch_arg2 (k : Nat) (b : Bool) (s : State) : (setLatch k b s).arg2 = s.arg2 := rfl
@[simp] theorem setLatch_res0 (k : Nat) (b : Bool) (s : State) : (setLatch k b s).res0 = s.res0 := rfl
@[simp] theorem setLatch_res1 (k : Nat) (b : Bool) (s : State) : (setLatch k b s).res1 = s.res1 := rfl
@[simp] theorem setLatch_err (k : Nat) (b : Bool) (s : State) : (setLatch k b s).err = s.err := rfl
@[simp] theorem setLatch_phase (k : Nat) (b : Bool) (s : State) : (setLatch k b s).phase = s.phase := rfl
@[simp] theorem setLatch_dUnit (k : Nat) (b : Bool) (s : State) : (setLatch k b s).dUnit = s.dUnit := rfl
@[simp] theorem setLatch_dStart (k : Nat) (b : Bool) (s : State) : (setLatch k b s).dStart = s.dStart := rfl
@[simp] theorem setLatch_dTarget (k : Nat) (b : Bool) (s : State) : (setLatch k b s).dTarget = s.dTarget := rfl
@[simp] theorem setLatch_dbKey (k : Nat) (b : Bool) (s : State) : (setLatch k b s).dbKey = s.dbKey := rfl
@[simp] theorem setLatch_latch (k : Nat) (b : Bool) (s : State) : (setLatch k b s).latch = setBankBit s.latch k b := rfl
@[simp] theorem setLatch_pinLevel (k : Nat) (b : Bool) (s : State) : (setLatch k b s).pinLevel = s.pinLevel := rfl
@[simp] theorem setLatch_program (k : Nat) (b : Bool) (s : State) : (setLatch k b s).program = s.program := rfl
@[simp] theorem setLatch_round (k : Nat) (b : Bool) (s : State) : (setLatch k b s).round = s.round := rfl
@[simp] theorem setLatch_lastRead (k : Nat) (b : Bool) (s : State) : (setLatch k b s).lastRead = s.lastRead := rfl

@[simp] theorem setPin_params (k : Nat) (l : Bool) (s : State) : (setPin k l s).params = s.params := rfl
@[simp] theorem setPin_elapsed (k : Nat) (l : Bool) (s : State) : (setPin k l s).elapsed = s.elapsed := rfl
@[simp] theorem setPin_usPerUnit (k : Nat) (l : Bool) (s : State) : (setPin k l s).usPerUnit = s.usPerUnit := rfl
@[simp] theorem setPin_msPerUnit (k : Nat) (l : Bool) (s : State) : (setPin k l s).msPerUnit = s.msPerUnit := rfl
@[simp] theorem setPin_tickPeriod (k : Nat) (l : Bool) (s : State) : (setPin k l s).tickPeriod = s.tickPeriod := rfl
@[simp] theorem setPin_reload (k : Nat) (l : Bool) (s : State) : (setPin k l s).reload = s.reload := rfl
@[simp] theorem setPin_cvr (k : Nat) (l : Bool) (s : State) : (setPin k l s).cvr = s.cvr := rfl
@[simp] theorem setPin_cfg (k : Nat) (l : Bool) (s : State) : (setPin k l s).cfg = s.cfg := rfl
@[simp] theorem setPin_arg0 (k : Nat) (l : Bool) (s : State) : (setPin k l s).arg0 = s.arg0 := rfl
@[simp] theorem setPin_arg1 (k : Nat) (l : Bool) (s : State) : (setPin k l s).arg1 = s.arg1 := rfl
@[simp] theorem setPin_arg2 (k : Nat) (l : Bool) (s : State) : (setPin k l s).arg2 = s.arg2 := rfl
@[simp] theorem setPin_res0 (k : Nat) (l : Bool) (s : State) : (setPin k l s).res0 = s.res0 := rfl
@[simp] theorem setPin_res1 (k : Nat) (l : Bool) (s : State) : (setPin k l s).res1 = s.res1 := rfl
@[simp] theorem setPin_err (k : Nat) (l : Bool) (s : State) : (setPin k l s).err = s.err := rfl
@[simp] theorem setPin_phase (k : Nat) (l : Bool) (s : State) : (setPin k l s).phase = s.phase := rfl
@[simp] theorem setPin_dUnit (k : Nat) (l : Bool) (s : State) : (setPin k l s).dUnit = s.dUnit := rfl
@[simp] theorem setPin_dStart (k : Nat) (l : Bool) (s : State) : (setPin k l s).dStart = s.dStart := rfl
@[simp] theorem setPin_dTarget (k : Nat) (l : Bool) (s : State) : (setPin k l s).dTarget = s.dTarget := rfl
@[simp] theorem setPin_dbKey (k : Nat) (l : Bool) (s : State) : (setPin k l s).dbKey = s.dbKey := rfl
@[simp] theorem setPin_latch (k : Nat) (l : Bool) (s : State) : (setPin k l s).latch = s.latch := rfl
@[simp] theorem setPin_pinLevel (k : Nat) (l : Bool) (s : State) : (setPin k l s).pinLevel = setBankBit s.pinLevel k l := rfl
@[simp] theorem setPin_program (k : Nat) (l : Bool) (s : State) : (setPin k l s).program = s.program := rfl
@[simp] theorem setPin_round (k : Nat) (l : Bool) (s : State) : (setPin k l s).round = s.round := rfl
@[simp] theorem setPin_lastRead (k : Nat) (l : Bool) (s : State) : (setPin k l s).lastRead = s.lastRead := rfl

@[simp] theorem setWait_params (u : TimeUnit) (n : Word) (ph : Phase) (s : State) : (setWait u n ph s).params = s.params := rfl
@[simp] theorem setWait_elapsed (u : TimeUnit) (n : Word) (ph : Phase) (s : State) : (setWait u n ph s).elapsed = s.elapsed := rfl
@[simp] theorem setWait_usPerUnit (u : TimeUnit) (n : Word) (ph : Phase) (s : State) : (setWait u n ph s).usPerUnit = s.usPerUnit := rfl
@[simp] theorem setWait_msPerUnit (u : TimeUnit) (n : Word) (ph : Phase) (s : State) : (setWait u n ph s).msPerUnit = s.msPerUnit := rfl
@[simp] theorem setWait_tickPeriod (u : TimeUnit) (n : Word) (ph : Phase) (s : State) : (setWait u n ph s).tickPeriod = s.tickPeriod := rfl
@[simp] theorem setWait_reload (u : TimeUnit) (n : Word) (ph : Phase) (s : State) : (setWait u n ph s).reload = s.reload := rfl
@[simp] theorem setWait_cvr (u : TimeUnit) (n : Word) (ph : Phase) (s : State) : (setWait u n ph s).cvr = s.cvr := rfl
@[simp] theorem setWait_cfg (u : TimeUnit) (n : Word) (ph : Phase) (s : State) : (setWait u n ph s).cfg = s.cfg := rfl
@[simp] theorem setWait_arg0 (u : TimeUnit) (n : Word) (ph : Phase) (s : State) : (setWait u n ph s).arg0 = s.arg0 := rfl
@[simp] theorem setWait_arg1 (u : TimeUnit) (n : Word) (ph : Phase) (s : State) : (setWait u n ph s).arg1 = s.arg1 := rfl
@[simp] theorem setWait_arg2 (u : TimeUnit) (n : Word) (ph : Phase) (s : State) : (setWait u n ph s).arg2 = s.arg2 := rfl
@[simp] theorem setWait_res0 (u : TimeUnit) (n : Word) (ph : Phase) (s : State) : (setWait u n ph s).res0 = s.res0 := rfl
@[simp] theorem setWait_res1 (u : TimeUnit) (n : Word) (ph : Phase) (s : State) : (setWait u n ph s).res1 = s.res1 := rfl
@[simp] theorem setWait_err (u : TimeUnit) (n : Word) (ph : Phase) (s : State) : (setWait u n ph s).err = .ok := rfl
@[simp] theorem setWait_phase (u : TimeUnit) (n : Word) (ph : Phase) (s : State) : (setWait u n ph s).phase = ph := rfl
@[simp] theorem setWait_dUnit (u : TimeUnit) (n : Word) (ph : Phase) (s : State) : (setWait u n ph s).dUnit = u := rfl
@[simp] theorem setWait_dStart (u : TimeUnit) (n : Word) (ph : Phase) (s : State) : (setWait u n ph s).dStart = nowVal u s := rfl
@[simp] theorem setWait_dTarget (u : TimeUnit) (n : Word) (ph : Phase) (s : State) : (setWait u n ph s).dTarget = nowVal u s + n := rfl
@[simp] theorem setWait_dbKey (u : TimeUnit) (n : Word) (ph : Phase) (s : State) : (setWait u n ph s).dbKey = s.dbKey := rfl
@[simp] theorem setWait_latch (u : TimeUnit) (n : Word) (ph : Phase) (s : State) : (setWait u n ph s).latch = s.latch := rfl
@[simp] theorem setWait_pinLevel (u : TimeUnit) (n : Word) (ph : Phase) (s : State) : (setWait u n ph s).pinLevel = s.pinLevel := rfl
@[simp] theorem setWait_program (u : TimeUnit) (n : Word) (ph : Phase) (s : State) : (setWait u n ph s).program = s.program := rfl
@[simp] theorem setWait_round (u : TimeUnit) (n : Word) (ph : Phase) (s : State) : (setWait u n ph s).round = s.round := rfl
@[simp] theorem setWait_lastRead (u : TimeUnit) (n : Word) (ph : Phase) (s : State) : (setWait u n ph s).lastRead = s.lastRead := rfl

@[simp] theorem delayCompletion_params (s : State) : (delayCompletion s).params = s.params := rfl
@[simp] theorem delayCompletion_elapsed (s : State) : (delayCompletion s).elapsed = s.elapsed := rfl
@[simp] theorem delayCompletion_usPerUnit (s : State) : (delayCompletion s).usPerUnit = s.usPerUnit := rfl
@[simp] theorem delayCompletion_msPerUnit (s : State) : (delayCompletion s).msPerUnit = s.msPerUnit := rfl
@[simp] theorem delayCompletion_tickPeriod (s : State) : (delayCompletion s).tickPeriod = s.tickPeriod := rfl
@[simp] theorem delayCompletion_reload (s : State) : (delayCompletion s).reload = s.reload := rfl
@[simp] theorem delayCompletion_cvr (s : State) : (delayCompletion s).cvr = s.cvr := rfl
@[simp] theorem delayCompletion_cfg (s : State) : (delayCompletion s).cfg = s.cfg := rfl
@[simp] theorem delayCompletion_arg0 (s : State) : (delayCompletion s).arg0 = s.arg0 := rfl
@[simp] theorem delayCompletion_arg1 (s : State) : (delayCompletion s).arg1 = s.arg1 := rfl
@[simp] theorem delayCompletion_arg2 (s : State) : (delayCompletion s).arg2 = s.arg2 := rfl
@[simp] theorem delayCompletion_res0 (s : State) : (delayCompletion s).res0 = s.dStart := rfl
@[simp] theorem delayCompletion_res1 (s : State) : (delayCompletion s).res1 = nowVal s.dUnit s := rfl
@[simp] theorem delayCompletion_err (s : State) : (delayCompletion s).err = s.err := rfl
@[simp] theorem delayCompletion_phase (s : State) : (delayCompletion s).phase = .idle := rfl
@[simp] theorem delayCompletion_dUnit (s : State) : (delayCompletion s).dUnit = s.dUnit := rfl
@[simp] theorem delayCompletion_dStart (s : State) : (delayCompletion s).dStart = s.dStart := rfl
@[simp] theorem delayCompletion_dTarget (s : State) : (delayCompletion s).dTarget = s.dTarget := rfl
@[simp] theorem delayCompletion_dbKey (s : State) : (delayCompletion s).dbKey = s.dbKey := rfl
@[simp] theorem delayCompletion_latch (s : State) : (delayCompletion s).latch = s.latch := rfl
@[simp] theorem delayCompletion_pinLevel (s : State) : (delayCompletion s).pinLevel = s.pinLevel := rfl
@[simp] theorem delayCompletion_program (s : State) : (delayCompletion s).program = s.program := rfl
@[simp] theorem delayCompletion_round (s : State) : (delayCompletion s).round = s.round := rfl
@[simp] theorem delayCompletion_lastRead (s : State) : (delayCompletion s).lastRead = s.lastRead := rfl

@[simp] theorem configureClock_params (s : State) : (configureClock s).params = s.params := rfl
@[simp] theorem configureClock_elapsed (s : State) : (configureClock s).elapsed = s.arg2 := rfl
@[simp] theorem configureClock_usPerUnit (s : State) : (configureClock s).usPerUnit = BitVec.ofNat 32 (s.arg0.toNat / 1000000) := rfl
@[simp] theorem configureClock_msPerUnit (s : State) : (configureClock s).msPerUnit = BitVec.ofNat 32 (s.arg0.toNat / 1000) := rfl
@[simp] theorem configureClock_tickPeriod (s : State) : (configureClock s).tickPeriod = s.arg1.setWidth 8 := rfl
@[simp] theorem configureClock_reload (s : State) : (configureClock s).reload = BitVec.ofNat 32 ((periodCounts s - 1) % 2 ^ s.params.counterWidth) := rfl
@[simp] theorem configureClock_cvr (s : State) : (configureClock s).cvr = 0#32 := rfl
@[simp] theorem configureClock_cfg (s : State) : (configureClock s).cfg = true := rfl
@[simp] theorem configureClock_arg0 (s : State) : (configureClock s).arg0 = s.arg0 := rfl
@[simp] theorem configureClock_arg1 (s : State) : (configureClock s).arg1 = s.arg1 := rfl
@[simp] theorem configureClock_arg2 (s : State) : (configureClock s).arg2 = s.arg2 := rfl
@[simp] theorem configureClock_res0 (s : State) : (configureClock s).res0 = s.res0 := rfl
@[simp] theorem configureClock_res1 (s : State) : (configureClock s).res1 = s.res1 := rfl
@[simp] theorem configureClock_err (s : State) : (configureClock s).err = s.err := rfl
@[simp] theorem configureClock_phase (s : State) : (configureClock s).phase = s.phase := rfl
@[simp] theorem configureClock_dUnit (s : State) : (configureClock s).dUnit = s.dUnit := rfl
@[simp] theorem configureClock_dStart (s : State) : (configureClock s).dStart = s.dStart := rfl
@[simp] theorem configureClock_dTarget (s : State) : (configureClock s).dTarget = s.dTarget := rfl
@[simp] theorem configureClock_dbKey (s : State) : (configureClock s).dbKey = s.dbKey := rfl
@[simp] theorem configureClock_latch (s : State) : (configureClock s).latch = s.latch := rfl
@[simp] theorem configureClock_pinLevel (s : State) : (configureClock s).pinLevel = s.pinLevel := rfl
@[simp] theorem configureClock_program (s : State) : (configureClock s).program = s.program := rfl
@[simp] theorem configureClock_round (s : State) : (configureClock s).round = s.round := rfl
@[simp] theorem configureClock_lastRead (s : State) : (configureClock s).lastRead = s.lastRead := rfl

@[simp] theorem busRead_params (r : Reg) (s : State) : (busRead r s).params = s.params := rfl
@[simp] theorem busRead_elapsed (r : Reg) (s : State) : (busRead r s).elapsed = s.elapsed := rfl
@[simp] theorem busRead_usPerUnit (r : Reg) (s : State) : (busRead r s).usPerUnit = s.usPerUnit := rfl
@[simp] theorem busRead_msPerUnit (r : Reg) (s : State) : (busRead r s).msPerUnit = s.msPerUnit := rfl
@[simp] theorem busRead_tickPeriod (r : Reg) (s : State) : (busRead r s).tickPeriod = s.tickPeriod := rfl
@[simp] theorem busRead_reload (r : Reg) (s : State) : (busRead r s).reload = s.reload := rfl
@[simp] theorem busRead_cvr (r : Reg) (s : State) : (busRead r s).cvr = s.cvr := rfl
@[simp] theorem busRead_cfg (r : Reg) (s : State) : (busRead r s).cfg = s.cfg := rfl
@[simp] theorem busRead_arg0 (r : Reg) (s : State) : (busRead r s).arg0 = s.arg0 := rfl
@[simp] theorem busRead_arg1 (r : Reg) (s : State) : (busRead r s).arg1 = s.arg1 := rfl
@[simp] theorem busRead_arg2 (r : Reg) (s : State) : (busRead r s).arg2 = s.arg2 := rfl
@[simp] theorem busRead_res0 (r : Reg) (s : State) : (busRead r s).res0 = s.res0 := rfl
@[simp] theorem busRead_res1 (r : Reg) (s : State) : (busRead r s).res1 = s.res1 := rfl
@[simp] theorem busRead_err (r : Reg) (s : State) : (busRead r s).err = s.err := rfl
@[simp] theorem busRead_phase (r : Reg) (s : State) : (busRead r s).phase = s.phase := rfl
@[simp] theorem busRead_dUnit (r : Reg) (s : State) : (busRead r s).dUnit = s.dUnit := rfl
@[simp] theorem busRead_dStart (r : Reg) (s : State) : (busRead r s).dStart = s.dStart := rfl
@[simp] theorem busRead_dTarget (r : Reg) (s : State) : (busRead r s).dTarget = s.dTarget := rfl
@[simp] theorem busRead_dbKey (r : Reg) (s : State) : (busRead r s).dbKey = s.dbKey := rfl
@[simp] theorem busRead_latch (r : Reg) (s : State) : (busRead r s).latch = s.latch := rfl
@[simp] theorem busRead_pinLevel (r : Reg) (s : State) : (busRead r s).pinLevel = s.pinLevel := rfl
@[simp] theorem busRead_program (r : Reg) (s : State) : (busRead r s).program = s.program := rfl
@[simp] theorem busRead_round (r : Reg) (s : State) : (busRead r s).round = s.round := rfl
@[simp] theorem busRead_lastRead (r : Reg) (s : State) : (busRead r s).lastRead = some (readReg r s) := rfl

@[simp] theorem resetEvent_params (s : State) : (resetEvent s).params = s.params := rfl
@[simp] theorem resetEvent_elapsed (s : State) : (resetEvent s).elapsed = 0#32 := rfl
@[simp] theorem resetEvent_usPerUnit (s : State) : (resetEvent s).usPerUnit = 0#32 := rfl
@[simp] theorem resetEvent_msPerUnit (s : State) : (resetEvent s).msPerUnit = 0#32 := rfl
@[simp] theorem resetEvent_tickPeriod (s : State) : (resetEvent s).tickPeriod = 0#8 := rfl
@[simp] theorem resetEvent_reload (s : State) : (resetEvent s).reload = 0#32 := rfl
@[simp] theorem resetEvent_cvr (s : State) : (resetEvent s).cvr = 0#32 := rfl
@[simp] theorem resetEvent_cfg (s : State) : (resetEvent s).cfg = false := rfl
@[simp] theorem resetEvent_arg0 (s : State) : (resetEvent s).arg0 = 0#32 := rfl
@[simp] theorem resetEvent_arg1 (s : State) : (resetEvent s).arg1 = 0#32 := rfl
@[simp] theorem resetEvent_arg2 (s : State) : (resetEvent s).arg2 = 0#32 := rfl
@[simp] theorem resetEvent_res0 (s : State) : (resetEvent s).res0 = 0#32 := rfl
@[simp] theorem resetEvent_res1 (s : State) : (resetEvent s).res1 = 0#32 := rfl
@[simp] theorem resetEvent_err (s : State) : (resetEvent s).err = .ok := rfl
@[simp] theorem resetEvent_phase (s : State) : (resetEvent s).phase = .idle := rfl
@[simp] theorem resetEvent_dUnit (s : State) : (resetEvent s).dUnit = .ms := rfl
@[simp] theorem resetEvent_dStart (s : State) : (resetEvent s).dStart = 0#32 := rfl
@[simp] theorem resetEvent_dTarget (s : State) : (resetEvent s).dTarget = 0#32 := rfl
@[simp] theorem resetEvent_dbKey (s : State) : (resetEvent s).dbKey = 0#32 := rfl
@[simp] theorem resetEvent_latch (s : State) : (resetEvent s).latch = 0#32 := rfl
@[simp] theorem resetEvent_pinLevel (s : State) : (resetEvent s).pinLevel = s.pinLevel := rfl
@[simp] theorem resetEvent_program (s : State) : (resetEvent s).program = s.program := rfl
@[simp] theorem resetEvent_round (s : State) : (resetEvent s).round = s.round := rfl
@[simp] theorem resetEvent_lastRead (s : State) : (resetEvent s).lastRead = s.lastRead := rfl

@[simp] theorem advanceCounter_params (s : State) : (advanceCounter s).params = s.params := by
  unfold advanceCounter; split <;> rfl
@[simp] theorem advanceCounter_usPerUnit (s : State) : (advanceCounter s).usPerUnit = s.usPerUnit := by
  unfold advanceCounter; split <;> rfl
@[simp] theorem advanceCounter_msPerUnit (s : State) : (advanceCounter s).msPerUnit = s.msPerUnit := by
  unfold advanceCounter; split <;> rfl
@[simp] theorem advanceCounter_tickPeriod (s : State) : (advanceCounter s).tickPeriod = s.tickPeriod := by
  unfold advanceCounter; split <;> rfl
@[simp] theorem advanceCounter_reload (s : State) : (advanceCounter s).reload = s.reload := by
  unfold advanceCounter; split <;> rfl
@[simp] theorem advanceCounter_cfg (s : State) : (advanceCounter s).cfg = s.cfg := by
  unfold advanceCounter; split <;> rfl
@[simp] theorem advanceCounter_arg0 (s : State) : (advanceCounter s).arg0 = s.arg0 := by
  unfold advanceCounter; split <;> rfl
@[simp] theorem advanceCounter_arg1 (s : State) : (advanceCounter s).arg1 = s.arg1 := by
  unfold advanceCounter; split <;> rfl
@[simp] theorem advanceCounter_arg2 (s : State) : (advanceCounter s).arg2 = s.arg2 := by
  unfold advanceCounter; split <;> rfl
@[simp] theorem advanceCounter_res0 (s : State) : (advanceCounter s).res0 = s.res0 := by
  unfold advanceCounter; split <;> rfl
@[simp] theorem advanceCounter_res1 (s : State) : (advanceCounter s).res1 = s.res1 := by
  unfold advanceCounter; split <;> rfl
@[simp] theorem advanceCounter_err (s : State) : (advanceCounter s).err = s.err := by
  unfold advanceCounter; split <;> rfl
@[simp] theorem advanceCounter_phase (s : State) : (advanceCounter s).phase = s.phase := by
  unfold advanceCounter; split <;> rfl
@[simp] theorem advanceCounter_dUnit (s : State) : (advanceCounter s).dUnit = s.dUnit := by
  unfold advanceCounter; split <;> rfl
@[simp] theorem advanceCounter_dStart (s : State) : (advanceCounter s).dStart = s.dStart := by
  unfold advanceCounter; split <;> rfl
@[simp] theorem advanceCounter_dTarget (s : State) : (advanceCounter s).dTarget = s.dTarget := by
  unfold advanceCounter; split <;> rfl
@[simp] theorem advanceCounter_dbKey (s : State) : (advanceCounter s).dbKey = s.dbKey := by
  unfold advanceCounter; split <;> rfl
@[simp] theorem advanceCounter_latch (s : State) : (advanceCounter s).latch = s.latch := by
  unfold advanceCounter; split <;> rfl
@[simp] theorem advanceCounter_pinLevel (s : State) : (advanceCounter s).pinLevel = s.pinLevel := by
  unfold advanceCounter; split <;> rfl
@[simp] theorem advanceCounter_program (s : State) : (advanceCounter s).program = s.program := by
  unfold advanceCounter; split <;> rfl
@[simp] theorem advanceCounter_round (s : State) : (advanceCounter s).round = s.round := by
  unfold advanceCounter; split <;> rfl
@[simp] theorem advanceCounter_lastRead (s : State) : (advanceCounter s).lastRead = s.lastRead := by
  unfold advanceCounter; split <;> rfl

@[simp] theorem debounceCompletion_params (s : State) : (debounceCompletion s).params = s.params := by
  unfold debounceCompletion; split <;> rfl
@[simp] theorem debounceCompletion_elapsed (s : State) : (debounceCompletion s).elapsed = s.elapsed := by
  unfold debounceCompletion; split <;> rfl
@[simp] theorem debounceCompletion_usPerUnit (s : State) : (debounceCompletion s).usPerUnit = s.usPerUnit := by
  unfold debounceCompletion; split <;> rfl
@[simp] theorem debounceCompletion_msPerUnit (s : State) : (debounceCompletion s).msPerUnit = s.msPerUnit := by
  unfold debounceCompletion; split <;> rfl
@[simp] theorem debounceCompletion_tickPeriod (s : State) : (debounceCompletion s).tickPeriod = s.tickPeriod := by
  unfold debounceCompletion; split <;> rfl
@[simp] theorem debounceCompletion_reload (s : State) : (debounceCompletion s).reload = s.reload := by
  unfold debounceCompletion; split <;> rfl
@[simp] theorem debounceCompletion_cvr (s : State) : (debounceCompletion s).cvr = s.cvr := by
  unfold debounceCompletion; split <;> rfl
@[simp] theorem debounceCompletion_cfg (s : State) : (debounceCompletion s).cfg = s.cfg := by
  unfold debounceCompletion; split <;> rfl
@[simp] theorem debounceCompletion_arg0 (s : State) : (debounceCompletion s).arg0 = s.arg0 := by
  unfold debounceCompletion; split <;> rfl
@[simp] theorem debounceCompletion_arg1 (s : State) : (debounceCompletion s).arg1 = s.arg1 := by
  unfold debounceCompletion; split <;> rfl
@[simp] theorem debounceCompletion_arg2 (s : State) : (debounceCompletion s).arg2 = s.arg2 := by
  unfold debounceCompletion; split <;> rfl
@[simp] theorem debounceCompletion_err (s : State) : (debounceCompletion s).err = s.err := by
  unfold debounceCompletion; split <;> rfl
@[simp] theorem debounceCompletion_dUnit (s : State) : (debounceCompletion s).dUnit = s.dUnit := by
  unfold debounceCompletion; split <;> rfl
@[simp] theorem debounceCompletion_dStart (s : State) : (debounceCompletion s).dStart = s.dStart := by
  unfold debounceCompletion; split <;> rfl
@[simp] theorem debounceCompletion_dTarget (s : State) : (debounceCompletion s).dTarget = s.dTarget := by
  unfold debounceCompletion; split <;> rfl
@[simp] theorem debounceCompletion_dbKey (s : State) : (debounceCompletion s).dbKey = s.dbKey := by
  unfold debounceCompletion; split <;> rfl
@[simp] theorem debounceCompletion_pinLevel (s : State) : (debounceCompletion s).pinLevel = s.pinLevel := by
  unfold debounceCompletion; split <;> rfl
@[simp] theorem debounceCompletion_program (s : State) : (debounceCompletion s).program = s.program := by
  unfold debounceCompletion; split <;> rfl
@[simp] theorem debounceCompletion_round (s : State) : (debounceCompletion s).round = s.round := by
  unfold debounceCompletion; split <;> rfl
@[simp] theorem debounceCompletion_lastRead (s : State) : (debounceCompletion s).lastRead = s.lastRead := by
  unfold debounceCompletion; split <;> rfl

@[simp] theorem completionCheck_params (s : State) : (completionCheck s).params = s.params := by
  unfold completionCheck; split <;> (try split) <;> simp
@[simp] theorem completionCheck_elapsed (s : State) : (completionCheck s).elapsed = s.elapsed := by
  unfold completionCheck; split <;> (try split) <;> simp
@[simp] theorem completionCheck_usPerUnit (s : State) : (completionCheck s).usPerUnit = s.usPerUnit := by
  unfold completionCheck; split <;> (try split) <;> simp
@[simp] theorem completionCheck_msPerUnit (s : State) : (completionCheck s).msPerUnit = s.msPerUnit := by
  unfold completionCheck; split <;> (try split) <;> simp
@[simp] theorem completionCheck_tickPeriod (s : State) : (completionCheck s).tickPeriod = s.tickPeriod := by
  unfold completionCheck; split <;> (try split) <;> simp
@[simp] theorem completionCheck_reload (s : State) : (completionCheck s).reload = s.reload := by
  unfold completionCheck; split <;> (try split) <;> simp
@[simp] theorem completionCheck_cvr (s : State) : (completionCheck s).cvr = s.cvr := by
  unfold completionCheck; split <;> (try split) <;> simp
@[simp] theorem completionCheck_cfg (s : State) : (completionCheck s).cfg = s.cfg := by
  unfold completionCheck; split <;> (try split) <;> simp
@[simp] theorem completionCheck_arg0 (s : State) : (completionCheck s).arg0 = s.arg0 := by
  unfold completionCheck; split <;> (try split) <;> simp
@[simp] theorem completionCheck_arg1 (s : State) : (completionCheck s).arg1 = s.arg1 := by
  unfold completionCheck; split <;> (try split) <;> simp
@[simp] theorem completionCheck_arg2 (s : State) : (completionCheck s).arg2 = s.arg2 := by
  unfold completionCheck; split <;> (try split) <;> simp
@[simp] theorem completionCheck_err (s : State) : (completionCheck s).err = s.err := by
  unfold completionCheck; split <;> (try split) <;> simp
@[simp] theorem completionCheck_dUnit (s : State) : (completionCheck s).dUnit = s.dUnit := by
  unfold completionCheck; split <;> (try split) <;> simp
@[simp] theorem completionCheck_dStart (s : State) : (completionCheck s).dStart = s.dStart := by
  unfold completionCheck; split <;> (try split) <;> simp
@[simp] theorem completionCheck_dTarget (s : State) : (completionCheck s).dTarget = s.dTarget := by
  unfold completionCheck; split <;> (try split) <;> simp
@[simp] theorem completionCheck_dbKey (s : State) : (completionCheck s).dbKey = s.dbKey := by
  unfold completionCheck; split <;> (try split) <;> simp
@[simp] theorem completionCheck_pinLevel (s : State) : (completionCheck s).pinLevel = s.pinLevel := by
  unfold completionCheck; split <;> (try split) <;> simp
@[simp] theorem completionCheck_program (s : State) : (completionCheck s).program = s.program := by
  unfold completionCheck; split <;> (try split) <;> simp
@[simp] theorem completionCheck_round (s : State) : (completionCheck s).round = s.round := by
  unfold completionCheck; split <;> (try split) <;> simp
@[simp] theorem completionCheck_lastRead (s : State) : (completionCheck s).lastRead = s.lastRead := by
  unfold completionCheck; split <;> (try split) <;> simp

end Sys2Proof.Machine
end

