-- ==== Sys2Proof/Laws/Ops.lean ====
section
/-! SUPPORT. Once for each shared operation: everything it can do. -/

namespace Sys2Proof.Machine

theorem busy_eq (s : State) : busy s = decide (s.phase ≠ .idle) := by
  unfold busy; cases s.phase <;> rfl

/-- The completion check leaves the state, completes a delay, or completes a debounce wait (41_delay R153). -/
theorem completionCheck_cases (s : State) :
    (completionCheck s = s ∧ (s.phase = .idle ∨ waiting s = true))
      ∨ (completionCheck s = delayCompletion s ∧ s.phase = .delay ∧ waiting s = false)
      ∨ (completionCheck s = debounceCompletion s ∧ s.phase = .debounce ∧ waiting s = false) := by
  unfold completionCheck
  cases hp : s.phase <;> cases hw : waiting s <;> simp

/-- The debounce completion reports a press and latches it, or reports none (43_debounce R197). -/
theorem debounceCompletion_cases (s : State) :
    (active s s.dbKey.toNat = true ∧
        debounceCompletion s = { setLatch s.dbKey.toNat true s with res0 := 1#32, res1 := s.dbKey, phase := .idle })
      ∨ (active s s.dbKey.toNat = false ∧
        debounceCompletion s = { s with res0 := 0#32, res1 := 0#32, phase := .idle }) := by
  unfold debounceCompletion
  cases h : active s s.dbKey.toNat <;> simp

/-- The counter reloads and ticks, or decrements (40_clock R131). -/
theorem advanceCounter_cases (s : State) :
    (s.cvr = 0#32 ∧ advanceCounter s = { s with cvr := s.reload, elapsed := s.elapsed + s.tickPeriod.setWidth 32 })
      ∨ (s.cvr ≠ 0#32 ∧ advanceCounter s = { s with cvr := s.cvr - 1 }) := by
  unfold advanceCounter
  by_cases h : s.cvr = 0#32 <;> simp [h]

/-- A COUNT does nothing while CFG = 0; otherwise it is the counter's step and the completion check (40_clock R131). -/
theorem countEvent_cases (s : State) :
    (s.cfg = false ∧ countEvent s = s)
      ∨ (s.cfg = true ∧ countEvent s = completionCheck (advanceCounter s)) := by
  unfold countEvent
  cases s.cfg <;> simp

/-- A command that needs CFG runs, or fails with NOT_CONFIGURED (60_exceptions R226). -/
theorem whenConfigured_cases (body : State → State) (s : State) :
    (s.cfg = true ∧ whenConfigured body s = body s)
      ∨ (s.cfg = false ∧ whenConfigured body s = fail .notConfigured s) := by
  unfold whenConfigured
  cases s.cfg <;> simp

/-- KEY_READ: no press for an invalid key; NOT_CONFIGURED; or the poll of a valid key (43_debounce R195). -/
theorem readKey_cases (cont : Bool) (s : State) :
    (validKey s.params s.arg0 = false ∧ readKey cont s = complete 0#32 0#32 s)
      ∨ (validKey s.params s.arg0 = true ∧ s.cfg = false ∧ readKey cont s = fail .notConfigured s)
      ∨ (validKey s.params s.arg0 = true ∧ s.cfg = true ∧ readKey cont s = pollKey cont s) := by
  unfold readKey whenConfigured
  cases validKey s.params s.arg0 <;> cases s.cfg <;> simp

/-- After the mode's latch reset: already latched, a wait, or an inactive pin (43_debounce R195). -/
theorem samplePin_cases (s : State) :
    (active s s.arg0.toNat = true ∧ latchOf s s.arg0.toNat = true ∧ samplePin s = complete 0#32 0#32 s)
      ∨ (active s s.arg0.toNat = true ∧ latchOf s s.arg0.toNat = false ∧ samplePin s = startDebounce s)
      ∨ (active s s.arg0.toNat = false ∧ samplePin s = complete 0#32 0#32 (setLatch s.arg0.toNat false s)) := by
  unfold samplePin
  cases active s s.arg0.toNat <;> cases latchOf s s.arg0.toNat <;> simp

/-- The reading does not depend on anything but the clock elements. -/
theorem nowVal_congr (u : TimeUnit) {s t : State} (he : t.elapsed = s.elapsed) (hc : t.cvr = s.cvr)
    (hm : t.msPerUnit = s.msPerUnit) (hu : t.usPerUnit = s.usPerUnit) : nowVal u t = nowVal u s := by
  cases u <;> simp [nowVal, nowMsVal, nowUsVal, he, hc, hm, hu]

/-- The check of a wait compares its unit's reading with its target, so steps that keep these keep its answer. -/
theorem waiting_congr {s t : State} (hd : t.dUnit = s.dUnit) (ht : t.dTarget = s.dTarget)
    (he : t.elapsed = s.elapsed) (hc : t.cvr = s.cvr) (hm : t.msPerUnit = s.msPerUnit)
    (hu : t.usPerUnit = s.usPerUnit) : waiting t = waiting s := by
  simp [waiting, hd, ht, nowVal_congr s.dUnit he hc hm hu]

/-- Right at its issue a wait of n units goes on exactly when 1 ≤ n ≤ 2^31 (41_delay R157). -/
theorem waiting_setWait (u : TimeUnit) (n : Word) (ph : Phase) (s : State) :
    waiting (setWait u n ph s) = decide (1 ≤ n.toNat ∧ n.toNat ≤ 2 ^ 31) := by
  have hx : nowVal u (setWait u n ph s) = nowVal u s := nowVal_congr u rfl rfl rfl rfl
  have hs : nowVal u s - (nowVal u s + n) = -n := by
    rw [sub_add_cancel_left]
  have hn : (-n).toNat = (2 ^ 32 - n.toNat) % 2 ^ 32 := BitVec.toNat_neg n
  have := n.isLt
  simp only [waiting, setWait_dUnit, setWait_dTarget, hx, hs, signed32_neg_iff, hn, decide_eq_decide]
  omega

end Sys2Proof.Machine
end

