-- ==== Sys2Proof/Laws/Bus.lean ====
section
/-! SUPPORT. The window: offsets and registers agree, word accesses of a register are legal, and everything a Host's
turn can do. -/

namespace Sys2Proof.Machine

theorem regAtOffset_regOffset (r : Reg) : regAtOffset (regOffset r) = some r := by cases r <;> rfl

theorem regOffset_lt (r : Reg) : regOffset r < 0x40 := by cases r <;> decide

theorem regOffset_aligned (r : Reg) : regOffset r % 4 = 0 := by cases r <;> rfl

/-- Well-formed parameters, clause by clause (00_scope R9). -/
theorem Params.wf_iff (p : Params) :
    p.wf = true ↔ 1 ≤ p.counterWidth ∧ p.counterWidth ≤ 32 ∧ p.prioBits ≤ 8 ∧ 1 ≤ p.numKeys ∧ p.numKeys ≤ 32
      ∧ p.base % 64 = 0 := by
  simp [Params.wf, and_assoc]

/-- A word access at BASE + offset(r) selects the register r (20_memory R62, R64). -/
theorem regOfAccess_reg {p : Params} (h : p.base % 4 = 0) (r : Reg) :
    regOfAccess p (p.base + regOffset r) .word = .ok r := by
  have hlt := regOffset_lt r
  have hal := regOffset_aligned r
  have h1 : ¬(p.base + regOffset r < p.base ∨ p.base + 0x40 ≤ p.base + regOffset r) := by omega
  have h2 : ¬(AccessSize.word ≠ .word ∨ (p.base + regOffset r) % 4 ≠ 0) := by simp; omega
  simp only [regOfAccess, if_neg h1, if_neg h2, Nat.add_sub_cancel_left, regAtOffset_regOffset]

/-- An access that is a command write is a write that selects CMD. -/
theorem isCommandWrite_iff (p : Params) (a : Access) :
    isCommandWrite p a = true ↔ ∃ addr size v, a = .write addr size v ∧ regOfAccess p addr size = .ok .cmd := by
  cases a with
  | read => simp [isCommandWrite]
  | write addr size v =>
    unfold isCommandWrite
    rcases h : regOfAccess p addr size with e | r
    · simp [h]
    · cases r <;> simp [h]

/-- What a write to a register other than CMD does: an ARG register or nothing (20_memory R66). -/
inductive PlainWrite (v : Word) (s t : State) : Prop where
  | arg0 (h : t = { s with arg0 := v })
  | arg1 (h : t = { s with arg1 := v })
  | arg2 (h : t = { s with arg2 := v })
  | ignored (h : t = s)

/-- Everything a bus write that answers a next state can do. -/
theorem busWrite_cases {r : Reg} {v : Word} {s t : State} (h : busWrite r v s = .next t) :
    (r = .cmd ∧ issueWord v s = .next t) ∨ (r ≠ .cmd ∧ PlainWrite v s t) := by
  cases r
  case cmd => exact .inl ⟨rfl, h⟩
  case arg0 => exact .inr ⟨by simp, .arg0 (by simpa [busWrite, eq_comm] using h)⟩
  case arg1 => exact .inr ⟨by simp, .arg1 (by simpa [busWrite, eq_comm] using h)⟩
  case arg2 => exact .inr ⟨by simp, .arg2 (by simpa [busWrite, eq_comm] using h)⟩
  all_goals exact .inr ⟨by simp, .ignored (by simpa [busWrite, eq_comm] using h)⟩

/-- Everything the issue of a word that answers a next state can do: a command's issue, or a failure
(20_memory R67). -/
theorem issueWord_cases {v : Word} {s t : State} (h : issueWord v s = .next t) :
    (∃ i, decodeWord v = .ok i ∧ exec i s = .next t)
      ∨ (∃ e, decodeWord v = .error e ∧ t = fail (errOfDecode e) s) := by
  unfold issueWord at h
  split at h
  · exact .inl ⟨_, ‹_›, h⟩
  · exact .inr ⟨_, ‹_›, by simpa [eq_comm] using h⟩

/-- Only a word write at BASE itself selects CMD (20_memory R62). -/
theorem regOfAccess_cmd {p : Params} {addr : Nat} {size : AccessSize} (h : regOfAccess p addr size = .ok .cmd) :
    addr = p.base ∧ size = .word := by
  unfold regOfAccess at h
  split at h; · cases h
  split at h; · cases h
  rename_i h1 h2
  push Not at h1 h2
  refine ⟨?_, h2.1⟩
  have : addr - p.base = 0 := by
    unfold regAtOffset at h
    split at h
    · rename_i heq
      split at heq <;> simp_all
    · cases h
  omega

/-- Everything a Host's step that answers a next state can do. -/
inductive HostStep (l : HostLine) (s t : State) : Prop where
  /-- A read of STATUS by POLL (30_encoding R100). -/
  | poll (hl : l = .poll) (h : t = pollStatus s)
  /-- A bus read (20_memory R65). -/
  | read (a : Access) (hl : l = .access a) (r : Reg) (h : t = busRead r s)
  /-- A write to a register other than CMD (20_memory R66). -/
  | plain (a : Access) (hl : l = .access a) (v : Word) (h : PlainWrite v s t)
  /-- The issue of a command word (20_memory R67). -/
  | issue (v : Word) (hl : l = .access (.write s.params.base .word v))
      (hc : isCommandWrite s.params (.write s.params.base .word v) = true) (h : issueWord v s = .next t)

theorem hostTurn_cases {l : HostLine} {s t : State} (h : hostTurn l s = .next t) : HostStep l s t := by
  unfold hostTurn at h
  split at h
  · rename_i a
    unfold performAccess at h
    split at h
    · split at h
      · exact .read _ rfl _ (by simpa [eq_comm] using h)
      · cases h
    · rename_i addr size v
      split at h
      · rename_i r hr
        rcases busWrite_cases h with ⟨rfl, hi⟩ | ⟨_, hp⟩
        · obtain ⟨rfl, rfl⟩ := regOfAccess_cmd hr
          exact .issue v rfl ((isCommandWrite_iff _ _).2 ⟨_, _, v, rfl, hr⟩) hi
        · exact .plain _ rfl v hp
      · cases h
  · exact .poll rfl (by simpa [eq_comm] using h)

end Sys2Proof.Machine
end

