-- ==== Sys2Proof/Laws/Decode.lean ====
section
/-! SUPPORT. The fields of a command word as numbers. -/

namespace Sys2Proof

theorem opField_toNat (v : Word) : (opField v).toNat = v.toNat % 256 := by
  simp [opField, BitVec.extractLsb'_toNat]

theorem rsvField_toNat (v : Word) : (rsvField v).toNat = v.toNat / 512 := by
  have := v.isLt
  simp only [rsvField, BitVec.extractLsb'_toNat, Nat.shiftRight_eq_div_pow]
  omega

theorem modeBit_eq (v : Word) : modeBit v = decide (v.toNat / 256 % 2 = 1) := by
  simp [modeBit, BitVec.getLsbD, Nat.testBit, Nat.shiftRight_eq_div_pow, beq_eq_decide]

/-- An OP outside 1..9 selects no command (30_encoding R93). -/
theorem instrOfOp_none {op : Byte} (h : op.toNat = 0 ∨ 9 < op.toNat) : instrOfOp op = none := by
  unfold instrOfOp
  split <;> first | rfl | omega

end Sys2Proof
end

