-- ==== Sys2Proof/Laws/Step.lean ====
section
/-! SUPPORT. Once for the step: everything it can do, and what every COUNT keeps. -/

namespace Sys2Proof.Machine

/-- Taking a line's first event changes the lines still to come only. -/
theorem takeLine_keeps (l : Line) (rest : List Line) (s : State) :
    ∃ p, (takeLine l rest s).2 = { s with program := p } := ⟨_, rfl⟩

/-- A line that is not the Host's gives no event of the Host. -/
theorem firstEvent_host {e : Line} {l : HostLine} (h : (firstEvent e).1 = .host l) : e = .host l := by
  cases e with
  | host => simpa [firstEvent] using h
  | count more => cases more <;> cases h
  | pin | reset => cases h

/-- Finding the next event changes the model's own lines and rounds only. -/
theorem nextTurn_keeps (s : State) : ∃ p r, (nextTurn s).2 = { s with program := p, round := r } := by
  unfold nextTurn
  split
  · split
    · exact ⟨s.program, s.round, rfl⟩
    · unfold openRound
      split <;> exact ⟨_, _, rfl⟩
  · split
    · unfold turnWhileHeld
      split
      · exact ⟨s.program, s.round, rfl⟩
      · split
        · exact ⟨s.program, s.round, rfl⟩
        · exact ⟨_, s.round, rfl⟩
    · exact ⟨_, s.round, rfl⟩

/-- The Host's access that comes next is not held (20_memory R68). -/
theorem nextTurn_not_held {s : State} {a : Access} (h : (nextTurn s).1 = .host (.access a)) : held a s = false := by
  unfold nextTurn at h
  split at h
  · split at h
    · cases h
    · rename_i hb
      simp [held, hb]
  · split at h
    · unfold turnWhileHeld at h
      split at h
      · cases h
      · split at h
        · cases h
        · rename_i hh
          simp [firstEvent_host h, isHostLine] at hh
    · rename_i hh
      simpa [firstEvent_host h, lineHeld] using hh

/-- Everything a step that answers a next state can do: one agent's event (00_scope R6), on the state with the lines
and the round that come after it. -/
inductive TurnStep (s : State) (p : List Line) (r : Nat) (t : State) : Prop where
  /-- A read of STATUS by POLL (30_encoding R100). -/
  | poll (hn : (nextTurn s).1 = .host .poll) (h : t = pollStatus { s with program := p, round := r })
  /-- A bus read (20_memory R65). -/
  | read (a : Access) (hn : (nextTurn s).1 = .host (.access a)) (reg : Reg)
      (h : t = busRead reg { s with program := p, round := r })
  /-- A write to a register other than CMD (20_memory R66). -/
  | plain (a : Access) (hn : (nextTurn s).1 = .host (.access a)) (v : Word)
      (h : PlainWrite v { s with program := p, round := r } t)
  /-- A command word issued while PHASE = IDLE (20_memory R67). -/
  | issue (v : Word) (hn : (nextTurn s).1 = .host (.access (.write s.params.base .word v))) (hp : s.phase = .idle)
      (h : issueWord v { s with program := p, round := r } = .next t)
  | count (hn : (nextTurn s).1 = .count) (h : t = countEvent { s with program := p, round := r })
  | pin (k : Nat) (level : Bool) (hn : (nextTurn s).1 = .pin k level) (hk : keyInRange s.params k = true)
      (h : t = setPin k level { s with program := p, round := r })
  | reset (hn : (nextTurn s).1 = .reset) (h : t = resetEvent { s with program := p, round := r })

theorem step_cases {s t : State} (h : step s = .next t) : ∃ p r, TurnStep s p r t := by
  obtain ⟨p, r, hu⟩ := nextTurn_keeps s
  refine ⟨p, r, ?_⟩
  unfold step takeTurn perform at h
  rw [hu] at h
  split at h <;> rename_i hn
  · rcases hostTurn_cases h with ⟨rfl, h'⟩ | ⟨a, rfl, reg, h'⟩ | ⟨a, rfl, v, h'⟩ | ⟨v, rfl, hc, h'⟩
    · exact .poll hn h'
    · exact .read a hn reg h'
    · exact .plain a hn v h'
    · refine .issue v hn ?_ h'
      have hh := nextTurn_not_held hn
      simpa [held, show isCommandWrite s.params (.write s.params.base .word v) = true from hc, busy_eq] using hh
  · exact .count hn (by simpa [eq_comm] using h)
  · unfold pinTurn at h
    split at h
    · rename_i hk
      exact .pin _ _ hn hk (by simpa [eq_comm] using h)
    · cases h
  · exact .reset hn (by simpa [eq_comm] using h)

/-- No step changes the parameters (00_scope R9). -/
theorem exec_params {i : Instr} {s t : State} (h : exec i s = .next t) : t.params = s.params := by
  cases i <;> simp only [exec, execInit, execNowMs, execNowUs, execSample, execDelayMs, execDelayUs, execEncode,
    execDecode, execKeyRead, execKeyReadC, Host.Outcome.next.injEq] at h <;> subst h
  · split <;> simp
  all_goals first
    | (simp only [whenConfigured]; split <;> simp [startWait])
    | simp
    | (simp only [readKey, whenConfigured, pollKey, samplePin, startDebounce, startWait]
       repeat' split
       all_goals simp)

@[simp] theorem completionCheck_nowVal (u : TimeUnit) (s : State) : nowVal u (completionCheck s) = nowVal u s :=
  nowVal_congr u (by simp) (by simp) (by simp) (by simp)

/-! ## The lines still to come do not matter to a COUNT event -/

@[simp] theorem countEvent_program (s : State) : (countEvent s).program = s.program := by
  unfold countEvent
  split <;> simp

@[simp] theorem countEvent_round (s : State) : (countEvent s).round = s.round := by
  unfold countEvent
  split <;> simp

@[simp] theorem countEvent_params (s : State) : (countEvent s).params = s.params := by
  unfold countEvent
  split <;> simp

theorem waiting_withLines (s : State) (p : List Line) (r : Nat) :
    waiting { s with program := p, round := r } = waiting s := waiting_congr rfl rfl rfl rfl rfl rfl

theorem delayCompletion_withLines (s : State) (p : List Line) (r : Nat) :
    delayCompletion { s with program := p, round := r } = { delayCompletion s with program := p, round := r } := by
  have := nowVal_congr s.dUnit (s := s) (t := { s with program := p, round := r }) rfl rfl rfl rfl
  simp only [delayCompletion, this]

theorem debounceCompletion_withLines (s : State) (p : List Line) (r : Nat) :
    debounceCompletion { s with program := p, round := r }
      = { debounceCompletion s with program := p, round := r } := by
  have ha : active { s with program := p, round := r } s.dbKey.toNat = active s s.dbKey.toNat := rfl
  unfold debounceCompletion
  rw [ha]
  cases active s s.dbKey.toNat <;> rfl

/-- The completion check as one choice (41_delay R153). -/
theorem completionCheck_eq (s : State) :
    completionCheck s = if s.phase = .idle ∨ waiting s = true then s
      else if s.phase = .delay then delayCompletion s else debounceCompletion s := by
  unfold completionCheck
  cases s.phase <;> simp

theorem completionCheck_withLines (s : State) (p : List Line) (r : Nat) :
    completionCheck { s with program := p, round := r } = { completionCheck s with program := p, round := r } := by
  rw [completionCheck_eq, completionCheck_eq, waiting_withLines, delayCompletion_withLines,
    debounceCompletion_withLines]
  show (if s.phase = .idle ∨ _ then _ else if s.phase = .delay then _ else _) = _
  split
  · rfl
  · split <;> rfl

theorem countEvent_withLines (s : State) (p : List Line) (r : Nat) :
    countEvent { s with program := p, round := r } = { countEvent s with program := p, round := r } := by
  have ha : advanceCounter { s with program := p, round := r }
      = { advanceCounter s with program := p, round := r } := by
    unfold advanceCounter
    split <;> rfl
  unfold countEvent
  rw [ha, completionCheck_withLines]
  show (if s.cfg = true then _ else _) = _
  split <;> rfl

/-! ## Taking lines one by one -/

theorem run_next {s t : State} (k : Nat) (h : step s = .next t) :
    Host.Core.run core (k + 1) s = Host.Core.run core k t := by
  have : core.step s = .next t := h
  simp only [Host.Core.run, this]

theorem run_one (s : State) : Host.Core.run core 1 s = step s := by
  have hs : core.step s = step s := rfl
  rcases h : step s with t | f | r <;> simp only [Host.Core.run, hs, h] <;> rfl

/-- A line that is not held is the next one taken. -/
theorem nextTurn_line {s : State} {l : Line} {rest : List Line} (hp : s.program = l :: rest)
    (hh : lineHeld l s = false) : nextTurn s = takeLine l rest s := by
  simp [nextTurn, hp, hh]

/-- A write line that is not held does its write (20_memory R66 to R68). -/
theorem step_write {s : State} {r : Reg} {v : Word} {rest : List Line} (hwf : s.params.wf = true)
    (hp : s.program = writeLine s.params r v :: rest) (hb : r ≠ .cmd ∨ s.phase = .idle) :
    step s = busWrite r v { s with program := rest } := by
  have hr : regOfAccess s.params (s.params.base + regOffset r) .word = .ok r :=
    regOfAccess_reg (by have := (Params.wf_iff _).1 hwf; omega) r
  have hh : lineHeld (writeLine s.params r v) s = false := by
    simp only [writeLine, lineHeld, held, busy_eq, isCommandWrite, hr]
    rcases hb with hb | hb
    · cases r <;> simp_all
    · simp [hb]
  simp [step, takeTurn, nextTurn_line hp hh, takeLine, writeLine, firstEvent, perform, hostTurn, performAccess, hr]

end Sys2Proof.Machine
end

