-- ==== Sys2Proof/Laws/Invariant.lean ====
section
/-! SUPPORT. Lemmas about the invariant: what it depends on, and that commands and COUNT events keep it. -/

namespace Sys2Proof.Machine

/-- Only INIT writes a clock element or CFG (10_state R21 to R26). -/
theorem exec_clock_frame {i : Instr} {s t : State} (hi : i ≠ .init) (h : exec i s = .next t) :
   t.elapsed = s.elapsed ∧ t.cvr = s.cvr ∧ t.usPerUnit = s.usPerUnit ∧ t.msPerUnit = s.msPerUnit ∧ t.tickPeriod = s.tickPeriod
      ∧ t.reload = s.reload ∧ t.cfg = s.cfg := by
  cases i <;> simp only [exec, execInit, execNowMs, execNowUs, execSample, execDelayMs, execDelayUs, execEncode,
    execDecode, execKeyRead, execKeyReadC, Host.Outcome.next.injEq] at h <;> subst h
  · exact absurd rfl hi
  all_goals first
    | (simp only [whenConfigured]; split <;> simp [startWait])
    | (simp)
    | (simp only [readKey, whenConfigured, pollKey, samplePin, startDebounce, startWait]
       repeat' split
       all_goals simp)

/-- What an INIT that passes its checks leaves in the clock, in numbers (40_clock R123, R125). -/
theorem configureClock_spec (s : State) (hw : s.params.counterWidth ≤ 32) (hi : initError s = none) :
   let t := configureClock s
   s.cfg = false ∧ t.usPerUnit.toNat = s.arg0.toNat / 1000000 ∧ t.msPerUnit.toNat = s.arg0.toNat / 1000 ∧
   t.tickPeriod.toNat = s.arg1.toNat ∧ t.reload.toNat + 1 = s.arg1.toNat * (s.arg0.toNat / 1000) ∧ ClockConfigured t := by
  unfold initError at hi
  have hc : s.cfg = false := by cases h : s.cfg <;> simp_all
  rw [if_neg (by simp [hc])] at hi
  split at hi; · cases hi
  split at hi; · cases hi
  split at hi; · cases hi
  split at hi; · cases hi
  rename_i h1 h2 h3 h4
  push Not at h1 h2 h3 h4
  have hB := s.arg0.isLt
  have hp : 2 ^ s.params.counterWidth ≤ 2 ^ 32 := Nat.pow_le_pow_right (by decide) hw
  have hp1 : 0 < 2 ^ s.params.counterWidth := Nat.two_pow_pos _
  have hm : s.arg0.toNat / 1000 = 1000 * (s.arg0.toNat / 1000000) := by omega
  have hu : 1 ≤ s.arg0.toNat / 1000000 := by omega
  have hpc : 1000 ≤ periodCounts s := by
    unfold periodCounts; rw [hm]; nlinarith [Nat.pos_of_ne_zero h2.1]
  have hr : ((periodCounts s - 1) % 2 ^ s.params.counterWidth) % 2 ^ 32 = periodCounts s - 1 := by
    unfold counterMax at h4
    rw [Nat.mod_eq_of_lt (a := periodCounts s - 1) (by omega), Nat.mod_eq_of_lt (by omega)]
  simp only [ClockConfigured, configureClock_usPerUnit, configureClock_msPerUnit, configureClock_tickPeriod, configureClock_reload, configureClock_cvr, configureClock_params, BitVec.toNat_ofNat, hr, BitVec.toNat_setWidth]
  have e1 : s.arg0.toNat / 1000000 % 2^32 = s.arg0.toNat / 1000000 := by omega
  have e2 : s.arg0.toNat / 1000 % 2^32 = s.arg0.toNat / 1000 := by omega
  have e3 : s.arg1.toNat % 2^8 = s.arg1.toNat := by omega
  rw [e1, e2, e3]
  have : periodCounts s = s.arg1.toNat * (s.arg0.toNat / 1000) := rfl
  refine ⟨hc, rfl, rfl, rfl, by omega, by omega, by omega, by omega, h3, by omega, by omega, by omega, by simp⟩

/-- The configured clock depends on its elements and the parameters only. -/
theorem clockConfigured_congr {s t : State} (hp : t.params = s.params)
  (h2 : t.cvr = s.cvr) (h3 : t.usPerUnit = s.usPerUnit) (h4: t.msPerUnit = s.msPerUnit) (h5: t.tickPeriod = s.tickPeriod)
      (h6: t.reload = s.reload) (h : ClockConfigured s) : ClockConfigured t := by
  unfold ClockConfigured at *; rw [hp,h2,h3,h4,h5,h6]; exact h

/-- Writing the latch of a key in 1..K keeps the latches in range. -/
theorem latchesInRange_setLatch {s : State} {k : Nat} {b : Bool} (hp : s.params.wf = true) (h1 : 1 ≤ k) (h2 : k ≤ s.params.numKeys) (h : LatchesInRange s) : LatchesInRange (setLatch k b s) := by
  have := (Params.wf_iff _).1 hp
  exact setBankBit_lt _ h1 h2 (by omega) _ h

/-- The invariant does not depend on the operands, the results, ERR, the pins or the model's own fields. -/
theorem inv_congr {s t : State} (h : Inv s) (hp : t.params = s.params) (h1 : t.elapsed = s.elapsed)
  (h2 : t.cvr = s.cvr) (h3 : t.usPerUnit = s.usPerUnit) (h4: t.msPerUnit = s.msPerUnit) (h5: t.tickPeriod = s.tickPeriod)
      (h6: t.reload = s.reload) (h7 : t.cfg = s.cfg) (h8 : t.phase = s.phase) (h9 : t.dUnit = s.dUnit) (h10 : t.dStart = s.dStart) (h11 : t.dTarget = s.dTarget) (h12 : t.dbKey = s.dbKey) (h13 : t.latch = s.latch) : Inv t where
  params := by rw [hp]; exact h.params
  configured := by intro hc; exact clockConfigured_congr hp h2 h3 h4 h5 h6 (h.configured (h7 ▸ hc))
  unconfigured := by intro hc; have := h.unconfigured (h7 ▸ hc); unfold ClockUnconfigured at *; rw [h1,h2,h3,h4,h5,h6,h8]; exact this
  pending := by
    have := h.pending; unfold WaitPending latchOf at *
    rw [h8, waiting_congr h9 h11 h1 h2 h4 h3, h9, h10, h11, h12, hp, h13]; exact this
  latches := by have := h.latches; unfold LatchesInRange at *; rw [hp, h13]; exact this

theorem inv_fail {s : State} (e) (h : Inv s) : Inv (fail e s) := inv_congr h rfl rfl rfl rfl rfl rfl rfl rfl rfl rfl rfl rfl rfl rfl
theorem inv_complete {s : State} (a b) (h : Inv s) : Inv (complete a b s) := inv_congr h rfl rfl rfl rfl rfl rfl rfl rfl rfl rfl rfl rfl rfl rfl

/-- The invariant of a configured block but for the wait in progress. -/
structure ConfiguredCore (s : State) : Prop where
  params : s.params.wf = true
  cfg : s.cfg = true
  clock : ClockConfigured s
  latches : LatchesInRange s

theorem ConfiguredCore.inv_idle {s : State} (h : ConfiguredCore s) (hp : s.phase = .idle) : Inv s :=
  ⟨h.params, fun _ => h.clock, (fun hc => by rw [h.cfg] at hc; cases hc), by simp [WaitPending, hp], h.latches⟩

theorem validKey_iff (p : Params) (k : Word) : validKey p k = true ↔ 1 ≤ k.toNat ∧ k.toNat ≤ p.numKeys := by
  simp [validKey, keyInRange]

theorem ConfiguredCore.congr {s t : State} (h : ConfiguredCore s) (hp : t.params = s.params)
  (h2 : t.cvr = s.cvr) (h3 : t.usPerUnit = s.usPerUnit) (h4: t.msPerUnit = s.msPerUnit) (h5: t.tickPeriod = s.tickPeriod)
      (h6: t.reload = s.reload) (h7 : t.cfg = s.cfg) (hl : t.latch = s.latch) : ConfiguredCore t :=
  ⟨hp ▸ h.params, h7 ▸ h.cfg, clockConfigured_congr hp h2 h3 h4 h5 h6 h.clock, by have := h.latches; unfold LatchesInRange at *; rw [hp, hl]; exact this⟩

/-- The completion check gives a state with the invariant (41_delay R153). -/
theorem inv_completionCheck {s : State} (h : ConfiguredCore s)
  (hdb : s.phase = .debounce → s.dUnit = .ms ∧ s.dTarget = s.dStart + Config.debounceMs
      ∧ validKey s.params s.dbKey = true ∧ latchOf s s.dbKey.toNat = false) : Inv (completionCheck s) := by
  rcases completionCheck_cases s with ⟨he, hw⟩ | ⟨he, hp, hw⟩ | ⟨he, hp, hw⟩ <;> rw [he]
  · refine ⟨h.params, fun _ => h.clock, (fun hc => by rw [h.cfg] at hc; cases hc), ?_, h.latches⟩
    unfold WaitPending
    rcases hph : s.phase with _ | _ | _
    · trivial
    · simpa [hph] using hw
    · refine ⟨by simpa [hph] using hw, hdb hph⟩
  · exact ConfiguredCore.inv_idle (h.congr rfl rfl rfl rfl rfl rfl rfl rfl) rfl
  · obtain ⟨-, -, hk, -⟩ := hdb hp
    rw [validKey_iff] at hk
    rcases debounceCompletion_cases s with ⟨_, he⟩ | ⟨_, he⟩ <;> rw [he]
    · refine ConfiguredCore.inv_idle ⟨h.params, h.cfg, h.clock, ?_⟩ rfl
      exact latchesInRange_setLatch (s := s) h.params hk.1 hk.2 h.latches
    · exact ConfiguredCore.inv_idle (h.congr rfl rfl rfl rfl rfl rfl rfl rfl) rfl

/-- A command issued in PHASE = IDLE keeps the invariant. -/
theorem inv_exec {i : Instr} {s t : State} (h : Inv s) (hp : s.phase = .idle) (he : exec i s = .next t) : Inv t := by
  have hpre : s.cfg = true → ConfiguredCore s := fun hc => ⟨h.params, hc, h.configured hc, h.latches⟩
  have hw := (Params.wf_iff _).1 h.params
  have delay : ∀ u n, s.cfg = true → Inv (startWait u n .delay s) := fun u n hc =>
    inv_completionCheck ((hpre hc).congr rfl rfl rfl rfl rfl rfl rfl rfl) (by simp)
  have key : ∀ c, Inv (readKey c s) := by
    intro c
    rcases readKey_cases c s with ⟨_, e⟩ | ⟨_, _, e⟩ | ⟨hv, hc, e⟩ <;> rw [e]
    · exact inv_complete _ _ h
    · exact inv_fail _ h
    · rw [validKey_iff] at hv
      unfold pollKey
      have h' : Inv (if c = true then setLatch s.arg0.toNat false s else s) := by
        split
        · exact ConfiguredCore.inv_idle ⟨h.params, hc, (hpre hc).clock, latchesInRange_setLatch (s := s) h.params hv.1 hv.2 h.latches⟩ hp
        · exact h
      generalize hs' : (if c = true then setLatch s.arg0.toNat false s else s) = s' at *
      have a1 : s'.arg0 = s.arg0 := by subst hs'; split <;> rfl
      have a2 : s'.params = s.params := by subst hs'; split <;> rfl
      have a3 : s'.cfg = s.cfg := by subst hs'; split <;> rfl
      have a4 : s'.phase = s.phase := by subst hs'; split <;> rfl
      have hpre' : ConfiguredCore s' := ⟨h'.params, a3 ▸ hc, h'.configured (a3 ▸ hc), h'.latches⟩
      rcases samplePin_cases s' with ⟨_, _, e⟩ | ⟨_, hl, e⟩ | ⟨_, e⟩ <;> rw [e]
      · exact inv_complete _ _ h'
      · unfold startDebounce startWait
        refine inv_completionCheck (hpre'.congr rfl rfl rfl rfl rfl rfl rfl rfl) ?_
        intro _
        refine ⟨rfl, rfl, ?_, ?_⟩
        · simp [validKey_iff, a1, a2, hv]
        · simpa [latchOf] using hl
      · refine inv_complete _ _ (ConfiguredCore.inv_idle ⟨h'.params, a3 ▸ hc, hpre'.clock, latchesInRange_setLatch (s := s') h'.params (by rw [a1]; exact hv.1) (by rw [a1, a2]; exact hv.2) h'.latches⟩ (by simp [a4, hp]))
  cases i <;> simp only [exec, execInit, execNowMs, execNowUs, execSample, execDelayMs, execDelayUs, execEncode,
    execDecode, execKeyRead, execKeyReadC, Host.Outcome.next.injEq] at he <;> subst he
  · split
    · exact inv_fail _ h
    · rename_i hi
      obtain ⟨_, _, _, _, _, hcc⟩ := configureClock_spec s hw.2.1 hi
      exact inv_complete _ _ (ConfiguredCore.inv_idle ⟨h.params, rfl, hcc, h.latches⟩ hp)
  case encode => exact inv_complete _ _ h
  case decode => exact inv_complete _ _ h
  case keyRead => exact key _
  case keyReadC => exact key _
  case delayMs =>
    rcases whenConfigured_cases (fun t => startWait .ms t.arg0 .delay t) s with ⟨hc, e⟩ | ⟨_, e⟩ <;> rw [e]
    · exact delay _ _ hc
    · exact inv_fail _ h
  case delayUs =>
    rcases whenConfigured_cases (fun t => startWait .us t.arg0 .delay t) s with ⟨hc, e⟩ | ⟨_, e⟩ <;> rw [e]
    · exact delay _ _ hc
    · exact inv_fail _ h
  all_goals
    unfold whenConfigured
    split
    · exact inv_complete _ _ h
    · exact inv_fail _ h

/-- A COUNT event keeps the invariant. -/
theorem inv_countEvent {s : State} (h : Inv s) : Inv (countEvent s) := by
  rcases countEvent_cases s with ⟨_, e⟩ | ⟨hc, e⟩ <;> rw [e]
  · exact h
  · refine inv_completionCheck ⟨?_, ?_, ?_, ?_⟩ ?_
    · simpa using h.params
    · simpa using hc
    · have hcc := h.configured hc
      unfold ClockConfigured at *
      rcases advanceCounter_cases s with ⟨hz, e⟩ | ⟨hz, e⟩ <;> rw [e]
      · simp only; omega
      · simp only
        have : (s.cvr - 1).toNat ≤ s.cvr.toNat := by
          have : s.cvr.toNat ≠ 0 := fun h => hz (BitVec.eq_of_toNat_eq (by simpa using h))
          have := s.cvr.isLt
          rw [BitVec.toNat_sub]; simp; omega
        omega
    · have := h.latches; unfold LatchesInRange at *; simpa using this
    · intro hp
      have hp' : s.phase = .debounce := by simpa using hp
      have := h.pending
      simp only [WaitPending, hp'] at this
      simpa [latchOf] using this.2

end Sys2Proof.Machine
end

