-- ==== Sys2Proof/Laws/PerInstr.lean ====
section
/-! SUPPORT. The family RoundTrip: each command's word decodes to the command (30_encoding R97). -/

namespace Sys2Proof.Laws.RoundTrip

/-- The word of the command decodes to it. -/
def Statement (i : Instr) : Prop := decodeWord (encode i) = .ok i

theorem init : Statement .init := by rfl
theorem nowMs : Statement .nowMs := by rfl
theorem nowUs : Statement .nowUs := by rfl
theorem sample : Statement .sample := by rfl
theorem delayMs : Statement .delayMs := by rfl
theorem delayUs : Statement .delayUs := by rfl
theorem encode : Statement .encode := by rfl
theorem decode : Statement .decode := by rfl
theorem keyRead : Statement .keyRead := by rfl
theorem keyReadC : Statement .keyReadC := by rfl

end Sys2Proof.Laws.RoundTrip
end

