-- ==== Sys2Proof/Tests/Slice0.lean ====
section
/-! SUPPORT. Small tests with expected values from 95_test_vectors and from the rules' own examples, the WellFormed
smoke tests, and for each statement with hypotheses a state and operands that meet them all. -/

namespace Sys2Proof.Tests

open Sys2Proof.Machine

/-! ## Helpers -/

/-- The reset state with the pins at given levels. -/
def fresh (pins : Word) : State := State.atReset Params.default pins

/-- The block after INIT 1_000_000, 1, seed with ELAPSED and CVR as given and the pins at given levels. -/
def running (elapsed cvr pins : Word) : State :=
  { fresh pins with
    usPerUnit := 1#32, msPerUnit := 1000#32, tickPeriod := 1#8, reload := 999#32, cfg := true
    elapsed := elapsed, cvr := cvr }

/-- The state a step or a command answers, or `s` where it answers none. -/
def after (s : State) (o : Host.Outcome State Fault Refusal) : State :=
  match o with
  | .next t => t
  | .fault _ => s
  | .refused _ => s

/-- The operands of a command. -/
def withArgs (a b c : Word) (s : State) : State := { s with arg0 := a, arg1 := b, arg2 := c }

/-- What a command leaves in (ERR, RES0, RES1). -/
def outcome (i : Instr) (s : State) : ErrCode × Word × Word :=
  let t := after s (exec i s)
  (t.err, t.res0, t.res1)

/-- A Host about to write v to CMD. -/
def writesCmd (v : Word) (s : State) : State :=
  { s with program := [.host (.access (.write s.params.base .word v))] }

theorem running_inv (e c pins : Word) (h : c.toNat ≤ 999) : Inv (running e c pins) :=
  { params := (by decide : Params.default.wf = true)
    configured := fun _ =>
      ⟨(by decide : 1 ≤ (1#32).toNat), (by decide : (1000#32).toNat = 1000 * (1#32).toNat),
        (by decide : 1 ≤ (1#8).toNat), (by decide : counterMax Params.default % (1#8).toNat = 0),
        (by decide : (999#32).toNat + 1 = (1#8).toNat * (1000#32).toNat), (by decide : 999 ≤ (999#32).toNat),
        (by decide : (999#32).toNat ≤ counterMax Params.default), h⟩
    unconfigured := fun hc => by cases hc
    pending := trivial
    latches := (by decide : (0#32).toNat < 2 ^ 2) }

theorem fresh_inv (pins : Word) : Inv (fresh pins) :=
  { params := (by decide : Params.default.wf = true)
    configured := fun hc => by cases hc
    unconfigured := fun _ => ⟨rfl, rfl, rfl, rfl, rfl, rfl, rfl⟩
    pending := trivial
    latches := (by decide : (0#32).toNat < 2 ^ 2) }

/-! ## WellFormed: each check refuses an ill-formed term -/

theorem test_wf_width_zero : Params.wf { Params.default with counterWidth := 0 } = false := by decide
theorem test_wf_width_33 : Params.wf { Params.default with counterWidth := 33 } = false := by decide
theorem test_wf_prio_9 : Params.wf { Params.default with prioBits := 9 } = false := by decide
theorem test_wf_no_key : Params.wf { Params.default with numKeys := 0 } = false := by decide
theorem test_wf_33_keys : Params.wf { Params.default with numKeys := 33 } = false := by decide
theorem test_wf_base : Params.wf { Params.default with base := 0x20 } = false := by decide
theorem test_wf_default : Params.wf Params.default = true := by decide
theorem test_wf_pin_zero : Line.wf Params.default (.pin 0 true) = false := by decide
theorem test_wf_pin_three : Line.wf Params.default (.pin 3 true) = false := by decide
theorem test_wf_line_pin : ProgLine.wf Params.default (.pin 3 false) = false := by decide
theorem test_wf_commands : [Instr.init, .nowMs, .keyRead, .keyReadC].map Instr.wf = [true, true, true, true] := by
  decide

/-! ## Decoding: words written out from 30_encoding R90 and R93 (RSV, MODE, OP), and TV-ERR-1 to TV-ERR-11 -/

theorem test_decode_init : decodeWord 0b00000000000000000000000_0_00000001#32 = .ok .init := by rfl
theorem test_decode_nowMs : decodeWord 0b00000000000000000000000_0_00000010#32 = .ok .nowMs := by rfl
theorem test_decode_nowUs : decodeWord 0b00000000000000000000000_0_00000011#32 = .ok .nowUs := by rfl
theorem test_decode_sample : decodeWord 0b00000000000000000000000_0_00000100#32 = .ok .sample := by rfl
theorem test_decode_delayMs : decodeWord 0b00000000000000000000000_0_00000101#32 = .ok .delayMs := by rfl
theorem test_decode_delayUs : decodeWord 0b00000000000000000000000_0_00000110#32 = .ok .delayUs := by rfl
theorem test_decode_encode : decodeWord 0b00000000000000000000000_0_00000111#32 = .ok .encode := by rfl
theorem test_decode_decode : decodeWord 0b00000000000000000000000_0_00001000#32 = .ok .decode := by rfl
theorem test_decode_keyRead : decodeWord 0b00000000000000000000000_0_00001001#32 = .ok .keyRead := by rfl
theorem test_decode_keyReadC : decodeWord 0b00000000000000000000000_1_00001001#32 = .ok .keyReadC := by rfl
theorem test_decode_tv_err_4 : decodeWord 0x00000200#32 = .error .illegalOp := by rfl
theorem test_decode_tv_err_5 : decodeWord 0x0000010A#32 = .error .illegalOp := by rfl
theorem test_decode_tv_err_8 : decodeWord 0x00000107#32 = .error .reservedBits := by rfl
theorem test_decode_tv_err_10 : decodeWord 0x00000209#32 = .error .reservedBits := by rfl
theorem test_decode_table_word : decodeTableWord 32 265 = some .keyReadC ∧ decodeTableWord 32 10 = none := by
  decide

/-! ## Commands -/

/-- TV-INIT-15 and TV-INIT-13. -/
theorem test_init_ok :
    (let t := after State.reset (exec .init (withArgs 48000000#32 255#32 0#32 (fresh 0#32)))
     (t.reload, t.usPerUnit, t.msPerUnit, t.tickPeriod, readReg .status t))
      = (12239999#32, 48#32, 48000#32, 255#8, 2#32) := by decide

/-- TV-INIT-4, -6, -9, -10 and -23. -/
theorem test_init_errors :
    [outcome .init (withArgs 1500000#32 1#32 0#32 (fresh 0#32)),
      outcome .init (withArgs 1000000#32 256#32 0#32 (fresh 0#32)),
      outcome .init (withArgs 80000000#32 209#32 0#32 (fresh 0#32)),
      outcome .init (withArgs 80000000#32 255#32 0#32 (fresh 0#32)),
      outcome .init (withArgs 0#32 0#32 0#32 (running 0#32 0#32 0#32))]
      = [(.badBusFreq, 0#32, 0#32), (.badTickPeriod, 0#32, 0#32), (.tickNotDivisor, 0#32, 0#32),
        (.reloadRange, 0#32, 0#32), (.alreadyConfigured, 0#32, 0#32)] := by decide

/-- TV-READ-1f. -/
theorem test_readings :
    (outcome .nowMs (running 2#32 500#32 0#32), outcome .nowUs (running 2#32 500#32 0#32),
      outcome .sample (running 2#32 500#32 0#32))
      = ((.ok, 2#32, 0#32), (.ok, 1500#32, 0#32), (.ok, 2#32, 500#32)) := by decide

/-- TV-READ-3c: US_PER_UNIT 48, MS_PER_UNIT 48_000, E = 5, CVR = 191_999. -/
theorem test_readings_divide :
    (let s := { running 5#32 191999#32 0#32 with usPerUnit := 48#32, msPerUnit := 48000#32 }
     ((outcome .nowMs s).2.1, (outcome .nowUs s).2.1)) = (2#32, 1001#32) := by decide

/-- TV-READ-6 and TV-DLY-22. -/
theorem test_not_configured :
    [Instr.nowMs, .nowUs, .sample, .delayMs, .delayUs].map (fun i => outcome i (fresh 0#32))
      = List.replicate 5 (.notConfigured, 0#32, 0#32) := by decide

/-- TV-READ-1d to TV-READ-1e, and the wrap of TV-READ-4d to TV-READ-4e. -/
theorem test_count_ticks :
    (let a := countEvent (running 1#32 0#32 0#32)
     let b := countEvent (running 0xFFFFFFFF#32 0#32 0#32)
     (a.elapsed, a.cvr, b.elapsed, b.cvr)) = (2#32, 999#32, 0#32, 999#32) := by decide

/-- TV-READ-7 and a plain decrement. -/
theorem test_count_decrements :
    countEvent (fresh 0#32) = fresh 0#32 ∧ (countEvent (running 1#32 999#32 0#32)).cvr = 998#32 := by decide

/-- TV-DLY-2: DELAY_MS 1 at t0 = 0 completes on the first COUNT. -/
theorem test_delay_ms_one :
    (let w := after State.reset (exec .delayMs (withArgs 1#32 0#32 0#32 (running 0#32 0#32 0#32)))
     let t := countEvent w
     (readReg .status w, w.dTarget, readReg .status t, t.res0, t.res1)) = (7#32, 1#32, 2#32, 0#32, 1#32) := by decide

/-- TV-DLY-14 and TV-DLY-21: n above 2^31 completes at issue, n = 2^31 waits. -/
theorem test_delay_us_long :
    (let a := after State.reset (exec .delayUs (withArgs 0x80000001#32 0#32 0#32 (running 0#32 0#32 0#32)))
     let b := after State.reset (exec .delayUs (withArgs 0x80000000#32 0#32 0#32 (running 0#32 0#32 0#32)))
     (a.phase, b.phase, b.dTarget)) = (.idle, .delay, 0x80000000#32) := by decide

/-- TV-CODEC-10, -5, -15 and, with N = 8, TV-CODEC-27a. -/
theorem test_encode :
    [outcome .encode (withArgs 3#32 5#32 1#32 (fresh 0#32)), outcome .encode (withArgs 1#32 3#32 31#32 (fresh 0#32)),
      outcome .encode (withArgs 7#32 0xA#32 3#32 (fresh 0#32)),
      outcome .encode (withArgs 3#32 0x1F#32 0xFF#32
        (State.atReset { Params.default with prioBits := 8 } 0#32))].map (fun o => o.2.1)
      = [0xB#32, 0xF#32, 0xA#32, 0xFF#32] := by decide

/-- TV-CODEC-23, -24 and, with N = 8, TV-CODEC-27c. -/
theorem test_decode_command :
    [outcome .decode (withArgs 3#32 0x0D#32 0#32 (fresh 0#32)),
      outcome .decode (withArgs 2#32 0xFFFFFFF6#32 0#32 (fresh 0#32)),
      outcome .decode (withArgs 3#32 0xFF#32 0#32 (State.atReset { Params.default with prioBits := 8 } 0#32))]
      = [(.ok, 6#32, 1#32), (.ok, 1#32, 2#32), (.ok, 7#32, 31#32)] := by decide

/-- TV-KEY-5 up to its last COUNT, written as the state 9000 counts on (E = 9, CVR = 0), and TV-KEY-6's end. -/
theorem test_key_press :
    (let w := after State.reset (exec .keyRead (withArgs 1#32 0#32 0#32 (running 0#32 0#32 2#32)))
     let t := countEvent { w with elapsed := 9#32, cvr := 0#32 }
     let u := countEvent { w with elapsed := 9#32, cvr := 0#32, pinLevel := 3#32 }
     ((readReg .status w, w.dTarget, readReg .latch w), (readReg .status t, t.res0, t.res1, readReg .latch t),
       (u.res0, u.res1, readReg .latch u)))
      = ((0xB#32, 10#32, 0#32), (2#32, 1#32, 1#32, 1#32), (0#32, 0#32, 0#32)) := by decide

/-- TV-KEY-8 and TV-KEY-9: latched and held, then released. -/
theorem test_key_one_shot :
    (let s := { withArgs 1#32 0#32 0#32 (running 10#32 999#32 2#32) with latch := 1#32 }
     let held := after s (exec .keyRead s)
     let rel := after s (exec .keyRead { s with pinLevel := 3#32 })
     (held.phase, held.res0, held.latch, rel.res0, rel.latch)) = (.idle, 0#32, 1#32, 0#32, 0#32) := by decide

/-- TV-KEY-11: continuous mode clears the latch at issue and waits again; TV-KEY-13: no latch changes. -/
theorem test_key_continuous :
    (let s := { withArgs 1#32 0#32 0#32 (running 10#32 999#32 2#32) with latch := 1#32 }
     let w := after s (exec .keyReadC s)
     let n := after s (exec .keyReadC { s with arg0 := 3#32 })
     (readReg .status w, w.latch, readReg .status n, n.res0, n.latch)) = (0xB#32, 0#32, 2#32, 0#32, 1#32) := by decide

/-- TV-KEY-1, TV-KEY-3. -/
theorem test_key_before_init :
    [outcome .keyRead (withArgs 0#32 0#32 0#32 (fresh 0#32)), outcome .keyReadC (withArgs 2#32 0#32 0#32 (fresh 0#32))]
      = [(.ok, 0#32, 0#32), (.notConfigured, 0#32, 0#32)] := by decide

/-! ## Steps -/

/-- A command word placed for the next step runs: TV-CODEC-8 from reset. -/
theorem test_fetch_runs :
    (let s := withArgs 2#32 2#32 1#32 (State.reset.withFetchWord 32 7)
     (after s (step s)).res0) = 9#32 := by decide

/-- TV-ERR-12: a bad word in a running block. -/
theorem test_bad_word : readReg .status (after State.reset (step (writesCmd 0x80000109#32 (running 0#32 0#32 0#32)))) = 0x202#32 := by
  decide

/-- TV-DLY-23: a CMD write while BUSY is held over the COUNT line after it, and taken once that line is done and
PHASE = IDLE; a line of the Host after it comes after it. Here the delay ends at the second of three COUNTs. -/
theorem test_hold :
    (let w := { loadProgram [.pseudo .nowMs, .count 3, .rd .res0] (running 49#32 1#32 0#32) with
        phase := .delay, dTarget := 50#32 }
     (after w (Sys2Proof.core.run 5 w)).lastRead = some 50#32
       ∧ (after w (Sys2Proof.core.run 5 w)).program = []
       ∧ (after w (Sys2Proof.core.run 2 w)).phase = .idle ∧ (after w (Sys2Proof.core.run 3 w)).res0 = 0#32) := by
  decide

/-- 70_reset R281, TV-DLY-2: with no line left, a run goes on with COUNT events until the delay completes. -/
theorem test_run_ends :
    (let w := loadProgram [.pseudo (.delayMs 1#32)] (running 0#32 0#32 0#32)
     RunEnded (after w (Sys2Proof.core.run 3 w)) ∧ ¬RunEnded (after w (Sys2Proof.core.run 2 w))) := by decide

/-- 30_encoding R100: POLL reads BUSY once, the COUNT after it completes the delay, and its second read is its last. -/
theorem test_poll :
    (let w := loadProgram [.pseudo (.delayMs 1#32), .pseudo .poll, .rd .res1] (running 0#32 0#32 0#32)
     ((after w (Sys2Proof.core.run 3 w)).lastRead, (after w (Sys2Proof.core.run 5 w)).lastRead,
       (after w (Sys2Proof.core.run 6 w)).lastRead)) = (some 7#32, some 2#32, some 1#32) := by decide

/-- TV-RST-4: RESET takes its step while a CMD write is held, and the write is taken against the reset state. -/
theorem test_reset_while_held :
    (let w := { loadProgram [.pseudo .nowMs, .reset, .rd .status] (running 49#32 1#32 0#32) with
        phase := .delay, dTarget := 90#32 }
     (after w (Sys2Proof.core.run 3 w)).lastRead) = some 0x300#32 := by decide

/-- TV-RST-1: RESET abandons a wait. -/
theorem test_reset_step :
    (let s := { running 105#32 5#32 3#32 with phase := .delay, latch := 3#32, program := [.reset] }
     after s (step s)) = fresh 3#32 := by decide

/-- TV-ERR-19: a misaligned access is refused; PIN 2 reads back in PINS. -/
theorem test_bus_error_and_pin :
    step { fresh 0#32 with program := [.host (.access (.read 2 .word))] } = .refused .busError
      ∧ readReg .pins (after State.reset (step { fresh 0#32 with program := [.pin 2 true] })) = 2#32 :=
  ⟨rfl, by decide⟩

/-- TV-ERR-17, -20: a read of PARAM through the bus. -/
theorem test_read_param :
    (after State.reset (step { State.reset with program := [.host (.access (.read 0x3C .word))] })).lastRead
      = some 0x0A020418#32 := by decide

end Sys2Proof.Tests
end

