-- ==== Sys2Proof/Tests/Witnesses.lean ====
section
/-! SUPPORT. For each statement with hypotheses, concrete states and operands that meet them all together, with one
witness a clause at a boundary of its range. -/

namespace Sys2Proof.Tests

open Sys2Proof.Machine

/-- A block with its window at 0x40 and one Host line. -/
def oneLine (l : HostLine) (s : State) : State :=
  { s with params := { Params.default with base := 0x40 }, program := [.host l] }

/-- A block in a delay of one millisecond from reading 0, and in a debounce wait of key 1, right after their issue. -/
def delaying : State := after State.reset (exec .delayMs (withArgs 1#32 0#32 0#32 (running 0#32 0#32 2#32)))
def debouncing : State := after State.reset (exec .keyRead (withArgs 1#32 0#32 0#32 (running 0#32 0#32 2#32)))

theorem delaying_inv : Inv delaying :=
  { params := by decide
    configured := fun _ => by decide
    unconfigured := fun hc => by cases hc
    pending := by show waiting delaying = true; decide
    latches := by decide }

theorem debouncing_inv : Inv debouncing :=
  { params := by decide
    configured := fun _ => by decide
    unconfigured := fun hc => by cases hc
    pending := by
      show waiting debouncing = true ∧ debouncing.dUnit = .ms
        ∧ debouncing.dTarget = debouncing.dStart + Config.debounceMs
        ∧ validKey debouncing.params debouncing.dbKey = true ∧ latchOf debouncing debouncing.dbKey.toNat = false
      decide
    latches := by decide }

/-- The block right after INIT 1_000_000, 1, 0 from reset, the pins at given levels. -/
def configured (pins : Word) : State := withArgs 1000000#32 1#32 0#32 (running 0#32 0#32 pins)

theorem configured_just (pins : Word)
    (h1 : initError (withArgs 1000000#32 1#32 0#32 (fresh pins)) = none)
    (h2 : complete 0#32 0#32 (configureClock (withArgs 1000000#32 1#32 0#32 (fresh pins))) = configured pins) :
    JustConfigured (configured pins) := by
  refine ⟨withArgs 1000000#32 1#32 0#32 (fresh pins), ?_, ?_, rfl⟩
  · exact
      { params := (fresh_inv pins).params
        configured := fun hc => by cases hc
        unconfigured := fun _ => ⟨rfl, rfl, rfl, rfl, rfl, rfl, rfl⟩
        pending := trivial
        latches := (fresh_inv pins).latches }
  · simp only [exec, execInit, h1, h2]

theorem justConfigured : JustConfigured (configured 2#32) := configured_just _ (by decide) (by decide)

/-! ## The bus -/

theorem witness_BadWords_illegal :
    (0x00000200#32 : Word).toNat % 256 = 0 ∧ 9 < (0x8000000A#32 : Word).toNat % 256 := by decide
theorem witness_BadWords_reserved :
    ((1 ≤ (0x00000201#32 : Word).toNat % 256 ∧ (0x00000201#32 : Word).toNat % 256 ≤ 9)
        ∧ (0x00000201#32 : Word).toNat / 512 ≠ 0)
      ∧ ((0x00000108#32 : Word).toNat / 256 % 2 = 1 ∧ (0x00000108#32 : Word).toNat % 256 = 8)
      ∧ ((0x00000209#32 : Word).toNat % 256 = 9 ∧ (0x00000209#32 : Word).toNat / 512 ≠ 0) := by decide

theorem witness_StepRunsTheDecodedCommand :
    let s := oneLine (.access (.write 0x40 .word 7#32)) (fresh 0#32)
    s.params.wf = true ∧ s.phase = .idle ∧ s.program = [.host (.access (.write (s.params.base + 0x00) .word 7#32))]
      ∧ decodeWord 7#32 = .ok .encode :=
  ⟨by decide, rfl, by decide, rfl⟩
theorem witness_StepRunsTheDecodedCommand_error :
    let s := oneLine (.access (.write 0x40 .word 0#32)) (fresh 0#32)
    s.params.wf = true ∧ s.phase = .idle ∧ s.program = [.host (.access (.write (s.params.base + 0x00) .word 0#32))]
      ∧ decodeWord 0#32 = .error .illegalOp :=
  ⟨by decide, rfl, by decide, rfl⟩

theorem witness_CommandWriteIsHeldWhileBusy :
    let s := oneLine (.access (.write 0x40 .word 2#32)) delaying
    s.params.wf = true ∧ s.phase ≠ .idle ∧ s.program = [.host (.access (.write (s.params.base + 0x00) .word 2#32))] :=
  ⟨by decide, by decide, by decide⟩

/-- One state a clause: nothing after the held write, a Host line, a COUNT line of one and of two events, a PIN line
of the highest key, RESET. -/
theorem witness_CommandWriteIsHeldWhileBusy_clauses :
    let w := writeLine Params.default .cmd 2#32
    w = .host (.access (.write (debouncing.params.base + 0x00) .word 2#32)) ∧ debouncing.params.wf = true
      ∧ debouncing.phase ≠ .idle
      ∧ [[], [.host .poll], [.count 0], [.count 1], [.pin 2 true], [.reset]].map
          (fun rest => (nextTurn { debouncing with program := w :: rest }).1)
        = [.count, .count, .count, .count, .pin 2 true, .reset]
      ∧ 2 ≤ debouncing.params.numKeys := by decide

theorem witness_CountLineRunsInARow :
    ({ running 1#32 0#32 0#32 with program := [.count 2, .reset] } : State).program = .count 2 :: [.reset] := rfl

theorem witness_PseudoInstructionsIssueTheirCommand :
    (running 1#32 0#32 0#32).params.wf = true ∧ (running 1#32 0#32 0#32).phase = .idle
      ∧ (running 1#32 0#32 0#32).program = [] := by decide

theorem witness_OnlyCountOrResetEndsTheHold :
    ∃ s t, step s = .next t ∧ s.phase ≠ .idle ∧ t.phase = .idle :=
  ⟨delaying, _, rfl, by decide, by decide⟩
theorem witness_OnlyCountOrResetEndsTheHold_reset :
    ∃ s t, step s = .next t ∧ s.phase ≠ .idle ∧ t.phase = .idle ∧ (nextTurn s).1 = .reset :=
  ⟨{ delaying with program := [.reset] }, _, rfl, by decide, by decide, rfl⟩

theorem witness_StepsKeepTheWaitInProgress :
    ∃ s t, step s = .next t ∧ s.phase ≠ .idle ∧ t.phase ≠ .idle :=
  ⟨debouncing, _, rfl, by decide, by decide⟩

theorem witness_BusReadReturnsTheRegister :
    let s := oneLine (.access (.read 0x7C .word)) debouncing
    s.params.wf = true ∧ s.program = [.host (.access (.read (s.params.base + regOffset .param) .word))] :=
  ⟨by decide, by decide⟩

theorem witness_PollReadsStatusUntilNotBusy : (oneLine .poll delaying).program = [.host .poll] := by decide

theorem witness_KeyViewsHaveOneBitPerKey :
    (fresh 0#32).params.wf = true ∧ (2 : Nat) ≤ (fresh 0#32).params.numKeys ∧ ¬(3 : Nat) ≤ (fresh 0#32).params.numKeys := by
  decide

theorem witness_ParamHoldsTheParameters :
    (fresh 0#32).params.wf = true ∧ (fresh 0#32).params = Params.default := by decide

theorem witness_BusWriteOfTheOtherRegisters :
    let s := oneLine (.access (.write 0x44 .word 5#32)) debouncing
    s.params.wf = true ∧ Reg.arg0 ≠ .cmd
      ∧ s.program = [.host (.access (.write (s.params.base + regOffset .arg0) .word 5#32))] :=
  ⟨by decide, by decide, by decide⟩
theorem witness_BusWriteOfTheOtherRegisters_readOnly :
    let s := oneLine (.access (.write 0x58 .word 5#32)) debouncing
    s.params.wf = true ∧ Reg.status ≠ .cmd
      ∧ s.program = [.host (.access (.write (s.params.base + regOffset .status) .word 5#32))] :=
  ⟨by decide, by decide, by decide⟩

/-- The window's first and last byte, of a wrong width and misaligned; the bytes on its two sides. -/
theorem witness_IllegalAccessesAreRefused :
    step (oneLine (.access (.write 0x40 .byte 1#32)) (fresh 0#32)) = .refused .busError
      ∧ step (oneLine (.access (.read 0x7F .word)) (fresh 0#32)) = .refused .busError
      ∧ step (oneLine (.access (.read 0x3F .byte)) (fresh 0#32)) = .refused .outsideWindow
      ∧ step (oneLine (.access (.write 0x80 .word 1#32)) (fresh 0#32)) = .refused .outsideWindow :=
  ⟨rfl, rfl, rfl, rfl⟩

/-! ## Pins and RESET -/

theorem witness_PinEventChangesOnePinOnly :
    let s := { fresh 0#32 with program := [.pin 2 true] }
    s.params.wf = true ∧ s.program = [.pin 2 true] ∧ 1 ≤ 2 ∧ 2 ≤ s.params.numKeys := by decide

theorem witness_OnlyPinEventsChangePins : ∃ s t, step s = .next t ∧ t.pinLevel ≠ s.pinLevel :=
  ⟨{ fresh 0#32 with program := [.pin 1 true] }, _, rfl, by decide⟩

theorem witness_ResetWritesEveryElement : ({ debouncing with program := [.reset] } : State).program = [.reset] := rfl
theorem witness_ResetWritesEveryElement_held :
    let w := { debouncing with program := [writeLine Params.default .cmd 2#32, .reset, .count 0] }
    w.params.wf = true ∧ w.phase ≠ .idle
      ∧ w.program = .host (.access (.write w.params.base .word 2#32)) :: .reset :: [.count 0] := by decide

/-! ## The clock -/

/-- TV-INIT-15: the largest accepted period; and RELOAD exactly at COUNTER_MAX cannot occur, TV-INIT-1 is the least. -/
theorem witness_InitConfiguresTheClock :
    let s := withArgs 48000000#32 255#32 0xFFFFFFFF#32 (fresh 0#32)
    s.params.wf = true ∧ s.cfg = false ∧ s.arg0.toNat ≠ 0 ∧ s.arg0.toNat % 1000000 = 0 ∧ 1 ≤ s.arg1.toNat
      ∧ s.arg1.toNat ≤ 255 ∧ counterMax s.params % s.arg1.toNat = 0
      ∧ s.arg1.toNat * (s.arg0.toNat / 1000) - 1 ≤ counterMax s.params ∧ s.phase = .idle := by decide
theorem witness_InitConfiguresTheClock_least :
    let s := withArgs 1000000#32 1#32 0#32 (fresh 0#32)
    s.params.wf = true ∧ s.cfg = false ∧ s.arg0.toNat ≠ 0 ∧ s.arg0.toNat % 1000000 = 0 ∧ 1 ≤ s.arg1.toNat
      ∧ s.arg1.toNat ≤ 255 ∧ counterMax s.params % s.arg1.toNat = 0
      ∧ s.arg1.toNat * (s.arg0.toNat / 1000) - 1 ≤ counterMax s.params ∧ s.phase = .idle := by decide

/-- One state a clause: CFG = 1; B = 0 and B = 999_999; P = 0 and P = 256; P = 2; B = 70 MHz with P = 255. -/
theorem witness_InitFailsByTheFirstCheckThatApplies :
    (running 0#32 0#32 0#32).cfg = true
      ∧ (fresh 0#32).cfg = false
      ∧ ((0#32 : Word).toNat = 0 ∧ (999999#32 : Word).toNat % 1000000 ≠ 0)
      ∧ ((1000000#32 : Word).toNat ≠ 0 ∧ (1000000#32 : Word).toNat % 1000000 = 0 ∧ 255 < (256#32 : Word).toNat)
      ∧ ((2 ^ 24 - 1) % (2#32 : Word).toNat ≠ 0 ∧ (2 ^ 24 - 1) % (255#32 : Word).toNat = 0)
      ∧ 2 ^ 24 - 1 < (255#32 : Word).toNat * ((70000000#32 : Word).toNat / 1000) - 1
      ∧ (70000000#32 : Word).toNat % 1000000 = 0 := by decide

theorem witness_NowMsReadsThePairInOneStep :
    (running 2#32 500#32 0#32).cfg = true ∧ (running 2#32 500#32 0#32).msPerUnit ≠ 0#32
      ∧ (running 2#32 500#32 0#32).tickPeriod = 1#8 ∧ Inv (running 2#32 500#32 0#32) ∧ (fresh 0#32).cfg = false :=
  ⟨by decide, by decide, by decide, running_inv _ _ _ (by decide), by decide⟩

theorem witness_NowUsReadsThePairInOneStep :
    (running 2#32 500#32 0#32).cfg = true ∧ (running 2#32 500#32 0#32).usPerUnit ≠ 0#32 ∧ (fresh 0#32).cfg = false :=
  ⟨by decide, by decide, by decide⟩

theorem witness_SampleReadsThePairInOneStep :
    Inv (running 2#32 999#32 0#32) ∧ (running 2#32 999#32 0#32).cfg = true ∧ (fresh 0#32).cfg = false :=
  ⟨running_inv _ _ _ (by decide), rfl, rfl⟩

theorem witness_SampleGivesTheSameReadings : Inv (running 2#32 500#32 0#32) ∧ (running 2#32 500#32 0#32).cfg = true :=
  ⟨running_inv _ _ _ (by decide), rfl⟩

theorem witness_NotConfiguredExactlyForClockCommands :
    (∃ t, exec .keyRead (withArgs 2#32 0#32 0#32 (fresh 0#32)) = .next t ∧ t.err = .notConfigured)
      ∧ (∃ t, exec .keyRead (withArgs 3#32 0#32 0#32 (fresh 0#32)) = .next t ∧ t.err = .ok) :=
  ⟨⟨_, rfl, by decide⟩, ⟨_, rfl, by decide⟩⟩

theorem witness_CountEventWhileIdle :
    (CountNext { fresh 0#32 with program := [.count 0] } (fresh 0#32) ∧ (fresh 0#32).phase = .idle ∧ (fresh 0#32).cfg = false)
      ∧ CountNext { running 1#32 0#32 0#32 with program := [.count 1, .reset] }
          { running 1#32 0#32 0#32 with program := [.count 0, .reset] }
      ∧ (running 1#32 0#32 0#32).cvr = 0#32 ∧ (running 1#32 1#32 0#32).cvr ≠ 0#32 := by decide

theorem witness_ClockFollowsItsClosedForms :
    JustConfigured (configured 2#32) ∧ 1 ≤ 1 :=
  ⟨justConfigured, by decide⟩

theorem witness_MillisecondsAreMicrosecondsRoundedUp :
    let s := configured 2#32
    JustConfigured s ∧ 1000 * s.elapsed.toNat + 1 + 1500 / s.usPerUnit.toNat < 2 ^ 32 :=
  ⟨justConfigured, by decide⟩

theorem witness_ReadingsNeverStepBack :
    Inv (running 0xFFFFFFFF#32 0#32 0#32) ∧ (running 0xFFFFFFFF#32 0#32 0#32).cfg = true
      ∧ 1 ≤ unitCounts .us (running 0xFFFFFFFF#32 0#32 0#32) * (2 ^ 31 - 1) :=
  ⟨running_inv _ _ _ (by decide), rfl, by decide⟩

theorem witness_ElapsedHasOneWriterOutsideInit_tick : ∃ s t, step s = .next t ∧ t.elapsed ≠ s.elapsed :=
  ⟨{ running 1#32 0#32 0#32 with program := [.count 0] }, _, rfl, by decide⟩
theorem witness_ElapsedHasOneWriterOutsideInit_init :
    ∃ s t, step s = .next t ∧ t.elapsed ≠ s.elapsed ∧ IssueNext s .init :=
  ⟨writesCmd 1#32 (withArgs 1000000#32 1#32 7#32 (fresh 0#32)), _, rfl, by decide, 1#32, rfl, rfl⟩

theorem witness_ConfigurationIsSetOncePerReset :
    (∃ s t, step s = .next t ∧ (nextTurn s).1 ≠ .reset ∧ s.cfg = true)
      ∧ (∃ s t, step s = .next t ∧ (nextTurn s).1 ≠ .reset ∧ s.cfg = false ∧ t.cfg = true)
      ∧ (∃ s t, step s = .next t ∧ (nextTurn s).1 ≠ .reset ∧ s.cfg = t.cfg) :=
  ⟨⟨{ running 1#32 0#32 0#32 with program := [.count 0] }, _, rfl, by decide, rfl⟩,
    ⟨writesCmd 1#32 (withArgs 1000000#32 1#32 7#32 (fresh 0#32)), _, rfl, by decide, rfl, by decide⟩,
    ⟨{ fresh 0#32 with program := [.pin 1 true] }, _, rfl, by decide, by decide⟩⟩

theorem witness_ReadingsChangeOnlyInCountSteps :
    ∃ s t, step s = .next t ∧ s.cfg = true ∧ (nextTurn s).1 ≠ .count ∧ (nextTurn s).1 ≠ .reset :=
  ⟨writesCmd 3#32 (running 2#32 500#32 0#32), _, rfl, rfl, by decide, by decide⟩

theorem witness_RetryLoopDetectsEveryTick :
    let s := running 7#32 1#32 0#32
    Inv s ∧ s.cfg = true ∧ 1 < (s.reload.toNat + 1) * 2 ^ 24 ∧ 1 ≤ 1 ∧ (counts 1 s).elapsed = s.elapsed :=
  ⟨running_inv _ _ _ (by decide), rfl, by decide, by decide, by decide⟩

/-! ## The delay engine -/

/-- n = 0, 1, 2^31 and 2^31 + 1. -/
theorem witness_DelayIssueWaitsOrCompletes :
    (running 0#32 0#32 0#32).cfg = true
      ∧ ((0#32 : Word).toNat = 0 ∧ 2 ^ 31 < (0x80000001#32 : Word).toNat)
      ∧ ¬((1#32 : Word).toNat = 0 ∨ 2 ^ 31 < (1#32 : Word).toNat)
      ∧ ¬((0x80000000#32 : Word).toNat = 0 ∨ 2 ^ 31 < (0x80000000#32 : Word).toNat) := by decide

/-- The waiting state completes on its first COUNT, and the same wait of 10 units does not. -/
theorem witness_DelayCompletesAtTheFirstPassingCount :
    (CountNext delaying delaying ∧ delaying.cfg = true ∧ delaying.phase = .delay)
      ∧ 0 ≤ signed32 (nowMsVal { delaying with cvr := 999#32, elapsed := 1#32 } - delaying.dTarget)
      ∧ signed32 (nowMsVal { delaying with cvr := 999#32, elapsed := 1#32 } - 10#32) < 0 := by decide

theorem witness_DelayCompletesAfterExactlyCCounts :
    let s := configured 2#32
    JustConfigured s ∧ 1 ≤ (5#32 : Word).toNat ∧ (5#32 : Word).toNat ≤ 2 ^ 31
      ∧ (∃ w, exec .delayUs { counts 0 s with arg0 := 5#32 } = .next w)
      ∧ (∃ w, exec .delayUs { counts 1 s with arg0 := 5#32 } = .next w) :=
  ⟨justConfigured, by decide, by decide, ⟨_, rfl⟩, ⟨_, rfl⟩⟩

theorem witness_RunningCounterEndsEveryWait : Inv delaying ∧ delaying.program = [] ∧ delaying.phase ≠ .idle :=
  ⟨delaying_inv, rfl, by decide⟩

/-! ## The codec -/

theorem witness_EncodePacksTheField :
    let s := withArgs 2#32 2#32 1#32 (fresh 0#32)
    s.params.wf = true ∧ 2 = min s.arg0.toNat s.params.prioBits := by decide
theorem witness_DecodeSplitsTheField :
    let s := withArgs 0xFFFFFFFF#32 0xAB#32 0#32 (fresh 0#32)
    s.params.wf = true ∧ 4 = min s.arg0.toNat s.params.prioBits := by decide
theorem witness_CodecRoundTripGivesMaskedInputs :
    let s := withArgs 0#32 2#32 1#32 (fresh 0#32)
    s.params.wf = true ∧ 0 = min s.arg0.toNat s.params.prioBits ∧ ∃ t, exec .encode s = .next t :=
  ⟨by decide, by decide, _, rfl⟩
theorem witness_GroupWidthIsClampedToN :
    (fresh 0#32).params.wf = true ∧ (fresh 0#32).params.prioBits ≤ (4#32 : Word).toNat := by decide

/-! ## The debouncer -/

theorem witness_InvalidKeyGivesNoPress :
    (withArgs 0#32 0#32 0#32 (fresh 0#32)).arg0.toNat = 0
      ∧ (fresh 0#32).params.numKeys < (withArgs 3#32 0#32 0#32 (fresh 0#32)).arg0.toNat := by decide

theorem witness_KeyReadWithoutWaitGivesNoPress_inactive :
    let s := withArgs 2#32 0#32 0#32 (running 0#32 0#32 3#32)
    s.params.wf = true ∧ s.cfg = true ∧ 1 ≤ s.arg0.toNat ∧ s.arg0.toNat ≤ s.params.numKeys
      ∧ active s s.arg0.toNat = false := by decide
theorem witness_KeyReadWithoutWaitGivesNoPress_latched :
    let s := { withArgs 1#32 0#32 0#32 (running 0#32 0#32 2#32) with latch := 1#32 }
    s.params.wf = true ∧ s.cfg = true ∧ 1 ≤ s.arg0.toNat ∧ s.arg0.toNat ≤ s.params.numKeys
      ∧ active s s.arg0.toNat = true ∧ latchOf s s.arg0.toNat = true := by decide

theorem witness_KeyReadStartsTheDebounceWait :
    let s := withArgs 2#32 0#32 0#32 (running 0#32 0#32 0#32)
    s.params.wf = true ∧ s.cfg = true ∧ 1 ≤ s.arg0.toNat ∧ s.arg0.toNat ≤ s.params.numKeys
      ∧ active s s.arg0.toNat = true ∧ latchOf s s.arg0.toNat = false := by decide

/-- Nine milliseconds on, with CVR = 0, the next COUNT completes the wait; its first COUNT does not. -/
theorem witness_DebounceCompletesBySecondSample :
    Inv debouncing ∧ CountNext debouncing debouncing ∧ debouncing.phase = .debounce
      ∧ signed32 (nowMsVal { debouncing with cvr := 999#32, elapsed := 1#32 } - debouncing.dTarget) < 0
      ∧ 0 ≤ signed32 (nowMsVal { debouncing with cvr := 999#32, elapsed := 10#32 } - debouncing.dTarget)
      ∧ active debouncing debouncing.dbKey.toNat = true
      ∧ active { debouncing with pinLevel := 3#32 } debouncing.dbKey.toNat = false :=
  ⟨debouncing_inv, by decide, by decide, by decide, by decide, by decide, by decide⟩

/-- Key 1 from t0 = 0 and t0 = 1, the pins changed right at the issue. -/
theorem witness_KeyPressIsDecidedAfterExactlyCCounts :
    let s := configured 2#32
    JustConfigured s ∧ 1 ≤ (1#32 : Word).toNat ∧ (1#32 : Word).toNat ≤ s.params.numKeys
      ∧ active s (1#32 : Word).toNat = true ∧ latchOf s (1#32 : Word).toNat = false
      ∧ (∃ w, exec .keyRead { counts 0 s with arg0 := 1#32 } = .next w)
      ∧ (∃ w, exec .keyReadC { counts 1 s with arg0 := 1#32 } = .next w)
      ∧ 0 < s.msPerUnit.toNat * 9 + 1
      ∧ bankBit 2#32 (1#32 : Word).toNat = bankBit s.params.activeLevel (1#32 : Word).toNat
      ∧ bankBit 1#32 (1#32 : Word).toNat ≠ bankBit s.params.activeLevel (1#32 : Word).toNat :=
  ⟨justConfigured, by decide, by decide, by decide, by decide, ⟨_, rfl⟩, ⟨_, rfl⟩, by decide, by decide, by decide⟩

theorem debouncing_last_inv : Inv { debouncing with elapsed := 9#32, cvr := 0#32 } :=
  { params := by decide
    configured := fun _ => by decide
    unconfigured := fun hc => by cases hc
    pending := by
      show waiting { debouncing with elapsed := 9#32, cvr := 0#32 } = true ∧ debouncing.dUnit = .ms
        ∧ debouncing.dTarget = debouncing.dStart + Config.debounceMs
        ∧ validKey debouncing.params debouncing.dbKey = true ∧ latchOf debouncing debouncing.dbKey.toNat = false
      decide
    latches := by decide }

/-- The press of key 1 is latched by the COUNT that completes its wait. -/
theorem witness_LatchesChangeOnlyByTheirOwnKey :
    ∃ s t, Inv s ∧ step s = .next t ∧ 1 ≤ 1 ∧ 1 ≤ s.params.numKeys ∧ latchOf t 1 ≠ latchOf s 1 :=
  ⟨_, _, debouncing_last_inv, rfl, by decide, by decide, by decide⟩

/-- The latch of key 1 is released by the issue of a KEY_READ of it, and by that of a KEY_READ.C. -/
def latched (v : Word) : State :=
  writesCmd v { withArgs 1#32 0#32 0#32 (running 0#32 0#32 3#32) with latch := 1#32 }

theorem latched_inv (v : Word) : Inv (latched v) :=
  { params := (by decide : Params.default.wf = true)
    configured := fun _ => (running_inv 0#32 0#32 3#32 (by decide)).configured rfl
    unconfigured := fun hc => by cases hc
    pending := trivial
    latches := (by decide : (1#32).toNat < 2 ^ 2) }

theorem witness_LatchesChangeOnlyByTheirOwnKey_issue :
    (∃ t, Inv (latched 9#32) ∧ step (latched 9#32) = .next t ∧ latchOf t 1 ≠ latchOf (latched 9#32) 1
        ∧ IssueNext (latched 9#32) .keyRead)
      ∧ ∃ t, Inv (latched 265#32) ∧ step (latched 265#32) = .next t ∧ latchOf t 1 ≠ latchOf (latched 265#32) 1
        ∧ IssueNext (latched 265#32) .keyReadC :=
  ⟨⟨_, latched_inv _, rfl, by decide, 9#32, rfl, rfl⟩, ⟨_, latched_inv _, rfl, by decide, 265#32, rfl, rfl⟩⟩

theorem witness_LatchesChangeOnlyByTheirOwnKey_reset :
    ∃ t, step { latched 9#32 with program := [.reset] } = .next t ∧ latchOf t 1 ≠ latchOf (latched 9#32) 1 :=
  ⟨_, rfl, by decide⟩

/-! ## Frames and invariants -/

theorem witness_CommandsNeverWriteArgumentsOrPins :
    ∃ t, exec .keyRead (withArgs 1#32 0#32 0#32 (running 0#32 0#32 2#32)) = .next t := ⟨_, rfl⟩

theorem witness_ReadingAndCodecCommandsFrame : ∃ t, exec .sample (running 2#32 500#32 0#32) = .next t := ⟨_, rfl⟩

theorem witness_InitFrame :
    (∃ t, exec .init (withArgs 1000000#32 1#32 0#32 (fresh 0#32)) = .next t ∧ t.err = .ok)
      ∧ ∃ t, exec .init (withArgs 1000000#32 2#32 0#32 (fresh 0#32)) = .next t ∧ t.err ≠ .ok :=
  ⟨⟨_, rfl, by decide⟩, ⟨_, rfl, by decide⟩⟩

theorem witness_WaitCommandsFrame :
    (∃ t, exec .delayMs (withArgs 1#32 0#32 0#32 (running 0#32 0#32 2#32)) = .next t)
      ∧ ∃ t, exec .keyReadC (withArgs 1#32 0#32 0#32 (running 0#32 0#32 2#32)) = .next t :=
  ⟨⟨_, rfl⟩, ⟨_, rfl⟩⟩

theorem witness_EveryStepKeepsTheInvariant : ∃ s t, Inv s ∧ step s = .next t := ⟨debouncing, _, debouncing_inv, rfl⟩

theorem witness_ResetStateHasTheInvariant :
    Params.wf { counterWidth := 32, prioBits := 8, numKeys := 32, activeLevel := 0xFFFFFFFF#32, base := 0x40 } = true
      ∧ Params.wf { counterWidth := 1, prioBits := 0, numKeys := 1, activeLevel := 0#32, base := 0 } = true := by decide

end Sys2Proof.Tests
end

section
/-! SUPPORT. The lines still to come: commands and events leave them alone, but for a POLL that reads BUSY, and the
next event is the first of a line. -/

namespace Sys2Proof.Machine

/-! ## Commands and events keep the lines -/

@[simp] theorem startWait_program (u : TimeUnit) (n : Word) (ph : Phase) (s : State) :
    (startWait u n ph s).program = s.program := by
  simp [startWait]

theorem whenConfigured_program {body : State → State} {s : State} (h : (body s).program = s.program) :
    (whenConfigured body s).program = s.program := by
  rcases whenConfigured_cases body s with ⟨-, e⟩ | ⟨-, e⟩
  · rw [e, h]
  · rw [e, fail_program]

@[simp] theorem samplePin_program (s : State) : (samplePin s).program = s.program := by
  rcases samplePin_cases s with ⟨-, -, e⟩ | ⟨-, -, e⟩ | ⟨-, e⟩ <;> simp [e, startDebounce]

@[simp] theorem pollKey_program (cont : Bool) (s : State) : (pollKey cont s).program = s.program := by
  cases cont <;> simp [pollKey]

@[simp] theorem readKey_program (cont : Bool) (s : State) : (readKey cont s).program = s.program := by
  rcases readKey_cases cont s with ⟨-, e⟩ | ⟨-, -, e⟩ | ⟨-, -, e⟩ <;> simp [e]

/-- The issue of a command uses up no line (20_memory R67; log 4). -/
theorem exec_program {i : Instr} {s t : State} (h : exec i s = .next t) : t.program = s.program := by
  cases i <;> cases h
  case init => split <;> simp
  case nowMs | nowUs | sample => exact whenConfigured_program rfl
  case delayMs | delayUs => exact whenConfigured_program (startWait_program ..)
  case encode | decode => rfl
  case keyRead | keyReadC => exact readKey_program ..

theorem issueWord_program {v : Word} {s t : State} (h : issueWord v s = .next t) : t.program = s.program := by
  rcases issueWord_cases h with ⟨i, -, hx⟩ | ⟨e, -, rfl⟩
  · exact exec_program hx
  · rfl

theorem PlainWrite.program_eq {v : Word} {s t : State} (h : PlainWrite v s t) : t.program = s.program := by
  cases h <;> subst t <;> rfl

/-- A POLL read uses up its line, or puts a COUNT event before its next read (30_encoding R100; log 3). -/
theorem pollStatus_program_or_count (s : State) :
    (pollStatus s).program = s.program ∨ (nextTurn (pollStatus s)).1 = .count := by
  unfold pollStatus
  split
  · exact .inr rfl
  · exact .inl rfl

/-- Whatever a step does, it leaves the lines that come after its event, or a COUNT event is next. -/
theorem step_program_or_count {s t : State} (h : step s = .next t) :
    t.program = (nextTurn s).2.program ∨ (nextTurn t).1 = .count := by
  unfold step takeTurn perform at h
  split at h
  case h_1 =>
    rcases hostTurn_cases h with ⟨-, rfl⟩ | ⟨a, -, r, rfl⟩ | ⟨a, -, v, hw⟩ | ⟨v, -, -, hi⟩
    · exact pollStatus_program_or_count _
    · exact .inl rfl
    · exact .inl hw.program_eq
    · exact .inl (issueWord_program hi)
  case h_2 =>
    cases h
    exact .inl (countEvent_program _)
  case h_3 =>
    unfold pinTurn at h
    split at h
    · cases h
      exact .inl rfl
    · cases h
  case h_4 =>
    cases h
    exact .inl rfl

/-! ## The next event and the lines after it -/

/-- A line that is not a COUNT line is used up by its one event (30_encoding R99). -/
theorem takeLine_count_or_used (l : Line) (rest : List Line) (s : State) :
    (takeLine l rest s).1 = .count ∨ (∀ n, l ≠ .count n) ∧ (takeLine l rest s).2.program = rest := by
  cases l with
  | count more => cases more <;> exact .inl rfl
  | host | pin | reset => exact .inr ⟨by simp, rfl⟩

/-- With a line left, a COUNT event is next, or one line that is not a COUNT line is used up: the first, or the
environment line right after a held write (20_memory R68). -/
theorem nextTurn_count_or_uses_line {s : State} (h : s.program ≠ []) :
    (nextTurn s).1 = .count
      ∨ ∃ l, (∀ n, l ≠ .count n) ∧ s.program.Perm (l :: (nextTurn s).2.program) := by
  obtain ⟨w, rest, hp⟩ := List.exists_cons_of_ne_nil h
  rw [hp]
  simp only [nextTurn, hp]
  split
  case isTrue =>
    unfold turnWhileHeld
    split
    case h_1 => exact .inl rfl
    case h_2 e after =>
      split
      · exact .inl rfl
      · refine (takeLine_count_or_used e (w :: after) s).imp_right fun ⟨hne, hused⟩ => ⟨e, hne, ?_⟩
        rw [hused]
        exact .swap ..
  case isFalse =>
    refine (takeLine_count_or_used w rest s).imp_right fun ⟨hne, hused⟩ => ⟨w, hne, ?_⟩
    rw [hused]

/-- A free round has a COUNT event among its lines (00_scope R8; log 2). -/
theorem count_mem_roundLines (p : Params) (n : Nat) : Line.count 0 ∈ roundLines p n := by
  simp [roundLines]

/-- With no line left, a COUNT event is next, or a COUNT line is among the lines after the next event: that of the free
round just begun (log 2). -/
theorem nextTurn_count_or_count_mem {s : State} (h : s.program = []) :
    (nextTurn s).1 = .count ∨ .count 0 ∈ (nextTurn s).2.program := by
  have hmem := count_mem_roundLines s.params s.round
  simp only [nextTurn, h]
  split
  · exact .inl rfl
  · unfold openRound
    split
    case h_1 => exact .inl rfl
    case h_2 l rest hl =>
      refine (takeLine_count_or_used l rest _).imp_right fun ⟨hne, hused⟩ => ?_
      rw [hl] at hmem
      rw [hused]
      exact (List.mem_cons.1 hmem).resolve_left (hne 0).symm

end Sys2Proof.Machine
end

section
/-! The fairness of 00_scope R8: a COUNT event comes from every state, by induction over the lines still to come. -/

namespace Sys2Proof.Machine

/-- A COUNT event is next after finitely many steps, or one of them is refused (00_scope R8; log 2). -/
def CountComes (s : State) : Prop :=
  ∃ k, (∃ t, Host.Core.run core k s = .next t ∧ (nextTurn t).1 = .count)
    ∨ (∃ r, Host.Core.run core k s = .refused r)

theorem countComes_of_nextTurn {s : State} (h : (nextTurn s).1 = .count) : CountComes s := ⟨0, .inl ⟨s, rfl, h⟩⟩

theorem countComes_of_refused {s : State} {r : Refusal} (h : step s = .refused r) : CountComes s :=
  ⟨1, .inr ⟨r, (run_one s).trans h⟩⟩

theorem countComes_of_step {s t : State} (h : step s = .next t) : CountComes t → CountComes s
  | ⟨k, hk⟩ => ⟨k + 1, by rwa [run_next k h]⟩

/-- If a COUNT event comes from every state that has the lines left after the next event, then one comes. -/
theorem countComes_of_lines_left {s : State} (h : ∀ t, t.program = (nextTurn s).2.program → CountComes t) :
    CountComes s := by
  rcases hs : step s with t | f | r
  · refine countComes_of_step hs ?_
    rcases step_program_or_count hs with hp | hc
    · exact h t hp
    · exact countComes_of_nextTurn hc
  · cases f
  · exact countComes_of_refused hs

/-- By induction on the number of lines: a COUNT event comes if a COUNT line is left, which no other line's event uses
up, or if one comes wherever no line is left. -/
theorem countComes_of_count_mem_or_end (s : State)
    (h : (∃ n, .count n ∈ s.program) ∨ ∀ u : State, u.program = [] → CountComes u) : CountComes s := by
  by_cases hnil : s.program = []
  · rcases h with ⟨n, hn⟩ | hend
    · simp [hnil] at hn
    · exact hend s hnil
  · rcases nextTurn_count_or_uses_line hnil with hc | ⟨l, hne, hperm⟩
    · exact countComes_of_nextTurn hc
    · refine countComes_of_lines_left fun t ht => ?_
      rw [← ht] at hperm
      have hlen : t.program.length < s.program.length := by simp [hperm.length_eq]
      refine countComes_of_count_mem_or_end t (h.imp_left fun ⟨n, hn⟩ => ⟨n, ?_⟩)
      exact (List.mem_cons.1 (hperm.mem_iff.1 hn)).resolve_left (hne n).symm
termination_by s.program.length

/-- With no line left a COUNT event comes: the next event, or the one in the free round that begins. -/
theorem countComes_of_program_nil {s : State} (h : s.program = []) : CountComes s := by
  rcases nextTurn_count_or_count_mem h with hc | hmem
  · exact countComes_of_nextTurn hc
  · exact countComes_of_lines_left fun t ht => countComes_of_count_mem_or_end t (.inl ⟨0, ht ▸ hmem⟩)

end Sys2Proof.Machine

open Sys2Proof.Machine

/-- Settles O60: the lines still to come run out unless a COUNT event comes first, and then the next free round has
one. -/
theorem countEventsComeInfinitelyOften : Obligations.CountEventsComeInfinitelyOften :=
  fun s => countComes_of_count_mem_or_end s (.inr fun _ => countComes_of_program_nil)
end

section
/-! SUPPORT. What a step does to the block's elements, whatever lines and round come after it: six kinds of event, and
what each kind leaves alone. -/

namespace Sys2Proof.Machine

/-- What a step that answers a next state does to the elements of the block: a coarser reading of `TurnStep`, in which
the reads and the plain writes are one kind, and a command word is decoded. -/
inductive StepEvent (s t : State) : Prop where
  /-- A read, or a write to a register other than CMD (20_memory R65, R66; 30_encoding R100). -/
  | access (a0 a1 a2 : Word) (p : List Line) (r : Nat) (l : Option Word)
      (h : t = { s with arg0 := a0, arg1 := a1, arg2 := a2, program := p, round := r, lastRead := l })
  /-- A write to CMD of a word that spells no command (30_encoding R98). -/
  | badWord (e : ErrCode) (p : List Line) (r : Nat) (hidle : s.phase = .idle)
      (h : t = fail e { s with program := p, round := r })
  /-- The issue of a command (20_memory R67). -/
  | command (i : Instr) (p : List Line) (r : Nat) (hn : IssueNext s i) (hidle : s.phase = .idle)
      (h : exec i { s with program := p, round := r } = .next t)
  | count (p : List Line) (r : Nat) (hn : (nextTurn s).1 = .count)
      (h : t = countEvent { s with program := p, round := r })
  | pin (k : Nat) (level : Bool) (p : List Line) (r : Nat) (hn : (nextTurn s).1 = .pin k level)
      (h : t = setPin k level { s with program := p, round := r })
  | reset (p : List Line) (r : Nat) (hn : (nextTurn s).1 = .reset)
      (h : t = resetEvent { s with program := p, round := r })

theorem step_event {s t : State} (h : step s = .next t) : StepEvent s t := by
  obtain ⟨p, r, ht⟩ := step_cases h
  cases ht with
  | poll hn h =>
    unfold pollStatus at h
    split at h <;> exact .access _ _ _ _ _ _ h
  | read a hn reg h => exact .access _ _ _ _ _ _ h
  | plain a hn v h => cases h with
    | arg0 h | arg1 h | arg2 h | ignored h => exact .access _ _ _ _ _ _ h
  | issue v hn hidle h =>
    rcases issueWord_cases h with ⟨i, hi, hx⟩ | ⟨e, -, he⟩
    · exact .command i p r ⟨v, hn, hi⟩ hidle hx
    · exact .badWord _ p r hidle he
  | count hn h => exact .count p r hn h
  | pin k level hn _ h => exact .pin k level p r hn h
  | reset hn h => exact .reset p r hn h

/-! ## INIT, in its two outcomes -/

/-- INIT fails with the code of its first check that applies, or configures the clock (40_clock R123). -/
theorem exec_init_cases {s t : State} (h : exec .init s = .next t) :
    (∃ e, initError s = some e ∧ t = fail e s)
      ∨ (initError s = none ∧ t = complete 0#32 0#32 (configureClock s)) := by
  simp only [exec, execInit, Host.Outcome.next.injEq] at h
  split at h
  · exact .inl ⟨_, ‹_›, h.symm⟩
  · exact .inr ⟨‹_›, h.symm⟩

/-- INIT's first check is that CFG = 0 (40_clock R123). -/
theorem cfg_of_initError_none {s : State} (h : initError s = none) : s.cfg = false := by
  by_contra hc
  rw [initError, if_pos (by simpa using hc)] at h
  cases h

/-! ## A COUNT event -/

/-- A completion check after which PHASE is not IDLE changed nothing. -/
theorem completionCheck_eq_self {s : State} (h : (completionCheck s).phase ≠ .idle) : completionCheck s = s := by
  rcases completionCheck_cases s with ⟨he, -⟩ | ⟨he, -, -⟩ | ⟨he, -, -⟩
  · exact he
  · simp [he] at h
  · rcases debounceCompletion_cases s with ⟨-, hd⟩ | ⟨-, hd⟩ <;> simp [he, hd] at h

/-- A COUNT after which PHASE is not IDLE did nothing or moved the counter only (40_clock R131). -/
theorem countEvent_of_busy {s : State} (h : (countEvent s).phase ≠ .idle) :
    countEvent s = s ∨ countEvent s = advanceCounter s := by
  rcases countEvent_cases s with ⟨-, he⟩ | ⟨-, he⟩
  · exact .inl he
  · rw [he] at h ⊢
    exact .inr (completionCheck_eq_self h)

@[simp] theorem countEvent_pinLevel (s : State) : (countEvent s).pinLevel = s.pinLevel := by
  rcases countEvent_cases s with ⟨-, he⟩ | ⟨-, he⟩ <;> simp [he]

/-- A COUNT changes ELAPSED only by the tick: with CFG = 1 and CVR = 0 it reloads and adds TICK_PERIOD
(40_clock R131). -/
theorem countEvent_elapsed_cases (s : State) :
    (countEvent s).elapsed = s.elapsed
      ∨ (s.cfg = true ∧ s.cvr = 0#32 ∧ (countEvent s).cvr = s.reload
        ∧ (countEvent s).elapsed = s.elapsed + s.tickPeriod.setWidth 32) := by
  rcases countEvent_cases s with ⟨-, he⟩ | ⟨hc, he⟩
  · exact .inl (by rw [he])
  · rcases advanceCounter_cases s with ⟨hz, ha⟩ | ⟨-, ha⟩
    · exact .inr ⟨hc, hz, by simp [he, ha], by simp [he, ha]⟩
    · exact .inl (by simp [he, ha])

/-- A COUNT changes the latches only by completing a debounce wait, which presses DB_KEY and reports it
(43_debounce R197). -/
theorem countEvent_latch_cases (s : State) :
    (countEvent s).latch = s.latch
      ∨ (s.phase = .debounce ∧ (countEvent s).phase = .idle
        ∧ (countEvent s).latch = setBankBit s.latch s.dbKey.toNat true
        ∧ (countEvent s).res0 = 1#32 ∧ (countEvent s).res1 = s.dbKey) := by
  rcases countEvent_cases s with ⟨-, he⟩ | ⟨-, he⟩
  · exact .inl (by rw [he])
  · rcases completionCheck_cases (advanceCounter s) with ⟨hk, -⟩ | ⟨hk, -, -⟩ | ⟨hk, hp, -⟩
    · exact .inl (by simp [he, hk])
    · exact .inl (by simp [he, hk])
    · rcases debounceCompletion_cases (advanceCounter s) with ⟨-, hd⟩ | ⟨-, hd⟩
      · exact .inr ⟨by simpa using hp, by simp [he, hk, hd]⟩
      · exact .inl (by simp [he, hk, hd])

end Sys2Proof.Machine
end

section
/-! The invariant: reset has it and every step keeps it. -/

namespace Sys2Proof.Machine

/-- At reset CFG = 0, the clock is 0, PHASE is IDLE and every latch is Released (10_state R28, R49). -/
theorem inv_atReset {p : Params} (pins : Word) (h : p.wf = true) : Inv (State.atReset p pins) where
  params := h
  configured := by simp [State.atReset]
  unconfigured _ := ⟨rfl, rfl, rfl, rfl, rfl, rfl, rfl⟩
  pending := trivial
  latches := Nat.two_pow_pos _

/-- The lines still to come are no part of the invariant. -/
theorem inv_withLines {s : State} (h : Inv s) (p : List Line) (r : Nat) :
    Inv { s with program := p, round := r } :=
  inv_congr h rfl rfl rfl rfl rfl rfl rfl rfl rfl rfl rfl rfl rfl rfl

theorem inv_setPin {s : State} (h : Inv s) (k : Nat) (level : Bool) : Inv (setPin k level s) :=
  inv_congr h rfl rfl rfl rfl rfl rfl rfl rfl rfl rfl rfl rfl rfl rfl

theorem inv_resetEvent {s : State} (h : Inv s) : Inv (resetEvent s) :=
  inv_congr (inv_atReset s.pinLevel h.params) rfl rfl rfl rfl rfl rfl rfl rfl rfl rfl rfl rfl rfl rfl

theorem inv_step {s t : State} (hs : Inv s) (h : step s = .next t) : Inv t := by
  have hlines := inv_withLines hs
  cases step_event h with
  | access a0 a1 a2 p r l h =>
    subst h
    exact inv_congr hs rfl rfl rfl rfl rfl rfl rfl rfl rfl rfl rfl rfl rfl rfl
  | badWord e p r _ h => exact h ▸ inv_fail e (hlines p r)
  | command i p r _ hidle h => exact inv_exec (hlines p r) hidle h
  | count p r _ h => exact h ▸ inv_countEvent (hlines p r)
  | pin k level p r _ h => exact h ▸ inv_setPin (hlines p r) k level
  | reset p r _ h => exact h ▸ inv_resetEvent (hlines p r)

end Sys2Proof.Machine

open Sys2Proof.Machine

/-- Settles O56, by the kind of event: accesses, pins and lines are no part of the invariant, and commands, COUNT and
RESET keep it. -/
theorem everyStepKeepsTheInvariant : Obligations.EveryStepKeepsTheInvariant := fun _ _ => inv_step

/-- Settles O57: the reset values of 10_state R49 meet R28. -/
theorem resetStateHasTheInvariant : Obligations.ResetStateHasTheInvariant :=
  ⟨fun _ pins h => inv_atReset pins h, inv_atReset _ (by decide)⟩
end

section
/-! SUPPORT. What the issue of a command leaves alone: the Host's side of the state (10_state R29, R37); the latches,
but for KEY_READ's release of its own key (43_debounce R198); the configuration, but for INIT. -/

namespace Sys2Proof.Machine

/-! ## The parameters, the operands, the pins and the model's own fields -/

/-- What no command writes: the parameters, ARG0 to ARG2, the pins and the model's own fields. -/
def commandFrame (s : State) : Params × Word × Word × Word × Word × List Line × Nat × Option Word :=
  (s.params, s.arg0, s.arg1, s.arg2, s.pinLevel, s.program, s.round, s.lastRead)

@[simp] theorem commandFrame_complete (r0 r1 : Word) (s : State) :
    commandFrame (complete r0 r1 s) = commandFrame s := rfl

@[simp] theorem commandFrame_fail (e : ErrCode) (s : State) : commandFrame (fail e s) = commandFrame s := rfl

@[simp] theorem commandFrame_configureClock (s : State) : commandFrame (configureClock s) = commandFrame s := rfl

@[simp] theorem commandFrame_setLatch (k : Nat) (b : Bool) (s : State) :
    commandFrame (setLatch k b s) = commandFrame s := rfl

@[simp] theorem commandFrame_startWait (u : TimeUnit) (n : Word) (ph : Phase) (s : State) :
    commandFrame (startWait u n ph s) = commandFrame s := by
  simp [commandFrame, startWait]

@[simp] theorem commandFrame_startDebounce (s : State) : commandFrame (startDebounce s) = commandFrame s :=
  commandFrame_startWait ..

/-- A command that needs CFG keeps what its body and a failure keep (60_exceptions R226). -/
theorem whenConfigured_keeps {α : Type} (f : State → α) {body : State → State} {s : State}
    (hbody : f (body s) = f s) (hfail : f (fail .notConfigured s) = f s) : f (whenConfigured body s) = f s := by
  rcases whenConfigured_cases body s with ⟨-, e⟩ | ⟨-, e⟩
  · rw [e, hbody]
  · rw [e, hfail]

@[simp] theorem commandFrame_samplePin (s : State) : commandFrame (samplePin s) = commandFrame s := by
  rcases samplePin_cases s with ⟨-, -, e⟩ | ⟨-, -, e⟩ | ⟨-, e⟩ <;> simp [e]

@[simp] theorem commandFrame_pollKey (cont : Bool) (s : State) : commandFrame (pollKey cont s) = commandFrame s := by
  cases cont <;> simp [pollKey]

@[simp] theorem commandFrame_readKey (cont : Bool) (s : State) : commandFrame (readKey cont s) = commandFrame s := by
  rcases readKey_cases cont s with ⟨-, e⟩ | ⟨-, -, e⟩ | ⟨-, -, e⟩ <;> simp [e]

theorem exec_commandFrame {i : Instr} {s t : State} (h : exec i s = .next t) : commandFrame t = commandFrame s := by
  cases i
  case init =>
    rcases exec_init_cases h with ⟨e, -, rfl⟩ | ⟨-, rfl⟩ <;> simp
  all_goals cases h
  case nowMs | nowUs | sample => exact whenConfigured_keeps commandFrame rfl rfl
  case delayMs | delayUs => exact whenConfigured_keeps commandFrame (commandFrame_startWait ..) rfl
  case encode | decode => rfl
  case keyRead | keyReadC => exact commandFrame_readKey ..

theorem exec_pinLevel {i : Instr} {s t : State} (h : exec i s = .next t) : t.pinLevel = s.pinLevel :=
  congrArg (fun f => f.2.2.2.2.1) (exec_commandFrame h)

/-! ## The latches -/

/-- At its issue a debounce wait goes on, so no press is latched then (41_delay R157, 43_debounce R196). -/
theorem startDebounce_eq (s : State) :
    startDebounce s = setWait .ms Config.debounceMs .debounce { s with dbKey := s.arg0 } := by
  have hw : waiting (setWait .ms Config.debounceMs .debounce { s with dbKey := s.arg0 }) = true := by
    rw [waiting_setWait]
    decide
  rw [startDebounce, startWait, completionCheck_eq, if_pos (.inr hw)]

/-- The issue of a delay writes no latch (41_delay R151, R154). -/
theorem startWait_delay_latch (u : TimeUnit) (n : Word) (s : State) : (startWait u n .delay s).latch = s.latch := by
  unfold startWait
  rcases completionCheck_cases (setWait u n .delay s) with ⟨e, -⟩ | ⟨e, -, -⟩ | ⟨-, hp, -⟩
  · simp [e]
  · simp [e]
  · simp at hp

theorem setBankBit_false_twice (bank : Word) (k : Nat) :
    setBankBit (setBankBit bank k false) k false = setBankBit bank k false := by
  simp [setBankBit, BitVec.and_assoc]

theorem samplePin_latch_cases (s : State) :
    (samplePin s).latch = s.latch ∨ (samplePin s).latch = setBankBit s.latch s.arg0.toNat false := by
  rcases samplePin_cases s with ⟨-, -, e⟩ | ⟨-, -, e⟩ | ⟨-, e⟩
  · exact .inl (by simp [e])
  · exact .inl (by simp [e, startDebounce_eq])
  · exact .inr (by simp [e])

theorem pollKey_latch_cases (cont : Bool) (s : State) :
    (pollKey cont s).latch = s.latch ∨ (pollKey cont s).latch = setBankBit s.latch s.arg0.toNat false := by
  cases cont
  · exact samplePin_latch_cases s
  · have h := samplePin_latch_cases (setLatch s.arg0.toNat false s)
    simp only [setLatch_latch, setLatch_arg0, setBankBit_false_twice, or_self] at h
    exact .inr h

/-- A KEY_READ in either mode changes no latch, or with CFG = 1 releases that of the valid key in ARG0
(43_debounce R195, R198). -/
theorem readKey_latch_cases (cont : Bool) (s : State) :
    (readKey cont s).latch = s.latch
      ∨ (s.cfg = true ∧ validKey s.params s.arg0 = true
        ∧ (readKey cont s).latch = setBankBit s.latch s.arg0.toNat false) := by
  rcases readKey_cases cont s with ⟨-, e⟩ | ⟨-, -, e⟩ | ⟨hv, hc, e⟩
  · exact .inl (by simp [e])
  · exact .inl (by simp [e])
  · rw [e]
    exact (pollKey_latch_cases cont s).imp_right fun h => ⟨hc, hv, h⟩

/-- A command changes no latch, unless it is a KEY_READ that releases its own key's (10_state R36). -/
theorem exec_latch_cases {i : Instr} {s t : State} (h : exec i s = .next t) :
    t.latch = s.latch
      ∨ ((i = .keyRead ∨ i = .keyReadC) ∧ s.cfg = true ∧ validKey s.params s.arg0 = true
        ∧ t.latch = setBankBit s.latch s.arg0.toNat false) := by
  cases i
  case init =>
    rcases exec_init_cases h with ⟨e, -, rfl⟩ | ⟨-, rfl⟩ <;> exact .inl rfl
  all_goals cases h
  case nowMs | nowUs | sample => exact .inl (whenConfigured_keeps State.latch rfl rfl)
  case delayMs | delayUs => exact .inl (whenConfigured_keeps State.latch (startWait_delay_latch ..) rfl)
  case encode | decode => exact .inl rfl
  case keyRead | keyReadC => exact (readKey_latch_cases ..).imp_right fun h => ⟨by simp, h⟩

/-- Setting the bit of one key to b changes no other key's, and any change is to b. -/
theorem bankBit_setBankBit_ne {bank : Word} {j k : Nat} {b : Bool} (hj : 1 ≤ j) (hj' : j ≤ 32) (hk : 1 ≤ k)
    (h : bankBit (setBankBit bank k b) j ≠ bankBit bank j) : k = j ∧ bankBit (setBankBit bank k b) j = b := by
  by_cases hjk : j = k
  · subst hjk
    exact ⟨rfl, bankBit_setBankBit_same bank hj hj' b⟩
  · exact absurd (bankBit_setBankBit_other bank hj hk hjk b) h

/-! ## The configuration -/

/-- What a successful INIT alone configures: CFG, the units, the period and the reload value (10_state R22 to R26). -/
def configuration (s : State) : Bool × Word × Word × Byte × Word :=
  (s.cfg, s.usPerUnit, s.msPerUnit, s.tickPeriod, s.reload)

theorem configuration_countEvent (s : State) : configuration (countEvent s) = configuration s := by
  rcases countEvent_cases s with ⟨-, he⟩ | ⟨-, he⟩ <;> simp [he, configuration]

/-- A command keeps the configuration, or is an INIT that configures a block with CFG = 0 (40_clock R123). -/
theorem exec_configuration {i : Instr} {s t : State} (h : exec i s = .next t) :
    configuration t = configuration s ∨ (i = .init ∧ s.cfg = false ∧ t.cfg = true ∧ t.err = .ok) := by
  by_cases hi : i = .init
  · subst hi
    rcases exec_init_cases h with ⟨e, -, rfl⟩ | ⟨hok, rfl⟩
    · exact .inl rfl
    · exact .inr ⟨rfl, cfg_of_initError_none hok, rfl, rfl⟩
  · obtain ⟨-, -, hus, hms, htick, hrel, hcfg⟩ := exec_clock_frame hi h
    exact .inl (by simp only [configuration, hus, hms, htick, hrel, hcfg])

/-- A step that is not RESET keeps the configuration, or is the issue of an INIT that succeeds (10_state R26). -/
theorem step_configuration {s t : State} (h : step s = .next t) (hreset : (nextTurn s).1 ≠ .reset) :
    configuration t = configuration s
      ∨ (IssueNext s .init ∧ s.cfg = false ∧ t.cfg = true ∧ t.err = .ok) := by
  cases step_event h with
  | access a0 a1 a2 p r l h => exact .inl (h ▸ rfl)
  | badWord e p r hidle h => exact .inl (h ▸ rfl)
  | command i p r hn hidle h =>
    exact (exec_configuration h).imp_right fun ⟨hi, hcfg⟩ => ⟨hi ▸ hn, hcfg⟩
  | count p r hn h => exact .inl (h ▸ configuration_countEvent _)
  | pin k level p r hn h => exact .inl (h ▸ rfl)
  | reset p r hn h => exact absurd hn hreset

end Sys2Proof.Machine
end

section
/-! Statements of 10_state about single steps: who writes the wait, ELAPSED, the configuration, the latches and the
pins. -/

open Sys2Proof Sys2Proof.Machine

/-- Settles O8: only COUNT and RESET have an effect on a wait, and after them either PHASE is IDLE or only the counter
has moved. -/
theorem stepsKeepTheWaitInProgress : Obligations.StepsKeepTheWaitInProgress := by
  intro s t h hs ht
  cases step_event h with
  | access a0 a1 a2 p r l h =>
    subst h
    simp
  | badWord e p r hidle h => exact absurd hidle hs
  | command i p r hn hidle h => exact absurd hidle hs
  | count p r hn h =>
    subst h
    rcases countEvent_of_busy ht with he | he <;> simp [he]
  | pin k level p r hn h =>
    subst h
    simp
  | reset p r hn h => exact absurd (h ▸ resetEvent_phase _) ht

/-- Settles O52, from the frame that all commands keep. -/
theorem commandsNeverWriteArgumentsOrPins : Obligations.CommandsNeverWriteArgumentsOrPins := by
  intro i s t h
  simpa only [commandFrame, Prod.mk.injEq] using exec_commandFrame h

/-- Settles O19: every event but a pin event keeps the pin levels. -/
theorem onlyPinEventsChangePins : Obligations.OnlyPinEventsChangePins := by
  intro s t h hne
  cases step_event h with
  | access a0 a1 a2 p r l h => exact absurd (by rw [h]) hne
  | badWord e p r hidle h => exact absurd (by simp [h]) hne
  | command i p r hn hidle h => exact absurd (exec_pinLevel h) hne
  | count p r hn h => exact absurd (h ▸ countEvent_pinLevel _) hne
  | pin k level p r hn h => exact ⟨k, level, hn⟩
  | reset p r hn h => exact absurd (by simp [h]) hne

/-- Settles O33: of the commands only INIT writes a clock element, and a COUNT writes ELAPSED by the tick only. -/
theorem elapsedHasOneWriterOutsideInit : Obligations.ElapsedHasOneWriterOutsideInit := by
  intro s t h hne
  cases step_event h with
  | access a0 a1 a2 p r l h => exact absurd (by rw [h]) hne
  | badWord e p r hidle h => exact absurd (by simp [h]) hne
  | command i p r hn hidle h =>
    by_cases hi : i = .init
    · subst hi
      rcases exec_init_cases h with ⟨e, -, rfl⟩ | ⟨hok, rfl⟩
      · exact absurd rfl hne
      · exact .inr (.inr ⟨hn, hidle, cfg_of_initError_none hok, rfl, rfl⟩)
    · obtain ⟨hel, -⟩ := exec_clock_frame hi h
      exact absurd hel hne
  | count p r hn h =>
    subst h
    rcases countEvent_elapsed_cases { s with program := p, round := r } with he | ⟨hc, hz, hcvr, hel⟩
    · exact absurd he hne
    · exact .inr (.inl ⟨hn, hc, hz, hcvr, by rw [hel, BitVec.ofNat_toNat]⟩)
  | pin k level p r hn h => exact absurd (by simp [h]) hne
  | reset p r hn h => exact .inl hn

/-- Settles O34: every step but RESET keeps the configuration and CFG, or is the successful INIT that starts from
CFG = 0. -/
theorem configurationIsSetOncePerReset : Obligations.ConfigurationIsSetOncePerReset := by
  intro s t h hreset
  rcases step_configuration h hreset with hkept | ⟨hn, hs, ht, herr⟩
  · simp only [configuration, Prod.mk.injEq] at hkept
    obtain ⟨hcfg, hclock⟩ := hkept
    exact ⟨hcfg.trans, fun _ => hclock, fun hs ht => by simp [hcfg, hs] at ht⟩
  · simp [hn, hs, ht, herr]

/-- Settles O51: of the commands only KEY_READ writes a latch, and a COUNT does so by completing a debounce wait, whose
key is valid by the invariant. -/
theorem latchesChangeOnlyByTheirOwnKey : Obligations.LatchesChangeOnlyByTheirOwnKey := by
  intro s t k hs h hk1 hkK hne
  have hk32 : k ≤ 32 := by
    have := (Params.wf_iff _).1 hs.params
    omega
  cases step_event h with
  | access a0 a1 a2 p r l h => exact absurd (by rw [h]; rfl) hne
  | badWord e p r hidle h => exact absurd (by rw [h]; rfl) hne
  | command i p r hn hidle h =>
    rcases exec_latch_cases h with hl | ⟨hi, hc, hv, hl⟩
    · exact absurd (congrArg (bankBit · k) hl) hne
    · rw [latchOf, hl] at hne
      obtain ⟨harg, hrel⟩ := bankBit_setBankBit_ne hk1 hk32 ((validKey_iff _ _).1 hv).1 hne
      refine .inr (.inl ⟨?_, hidle, hc, harg, by rw [latchOf, hl, hrel]⟩)
      rcases hi with rfl | rfl
      · exact .inl hn
      · exact .inr hn
  | count p r hn h =>
    subst h
    rcases countEvent_latch_cases { s with program := p, round := r } with hl | ⟨hp, hidle, hl, h0, h1⟩
    · exact absurd (congrArg (bankBit · k) hl) hne
    · have hv := hs.pending
      simp only [WaitPending, show s.phase = .debounce from hp] at hv
      obtain ⟨-, -, -, hv, -⟩ := hv
      rw [latchOf, hl] at hne
      obtain ⟨hkey, hpress⟩ := bankBit_setBankBit_ne hk1 hk32 ((validKey_iff _ _).1 hv).1 hne
      exact .inr (.inr ⟨hn, hp, hkey, hidle, by rw [latchOf, hl, hpress], h0, h1⟩)
  | pin k' level p r hn h => exact absurd (by rw [h]; rfl) hne
  | reset p r hn h => exact .inl hn
end

section
/-! SUPPORT. The views STATUS and PARAM as numbers (10_state R40, R41), and RESET as a step, next or behind a held
write. -/

namespace Sys2Proof.Machine

theorem toNat_append_eq_add {m n : Nat} (x : BitVec m) (y : BitVec n) :
    (x ++ y).toNat = x.toNat * 2 ^ n + y.toNat := by
  rw [BitVec.toNat_append, ← Nat.shiftLeft_add_eq_or_of_lt y.isLt, Nat.shiftLeft_eq]

/-- STATUS as a sum: BUSY, 2 CFG, 4 PHASE and 256 ERR (10_state R40). -/
theorem statusView_toNat (s : State) :
    (statusView s).toNat
      = (busy s).toNat + s.cfg.toNat * 2 + (phaseBits s.phase).toNat * 4 + (errBits s.err).toNat * 256 := by
  simp only [statusView, toNat_append_eq_add, BitVec.toNat_ofBool, BitVec.toNat_ofNat]
  omega

/-- PARAM as a sum: W, 2^8 N, 2^16 K and 2^24 DEBOUNCE_MS (10_state R41). -/
theorem paramView_toNat {p : Params} (h : p.wf = true) :
    (paramView p).toNat = p.counterWidth + 256 * p.prioBits + 65536 * p.numKeys + 16777216 * 10 := by
  have hms : (Config.debounceMs.extractLsb' 0 8).toNat = 10 := by decide
  have hp := (Params.wf_iff p).1 h
  simp only [paramView, toNat_append_eq_add, BitVec.toNat_ofNat, hms]
  omega

theorem paramView_default : paramView Params.default = 0x0A020418#32 := by decide

/-- RESET as the next line is the next step (70_reset R250). -/
theorem step_reset {s : State} {rest : List Line} (hp : s.program = .reset :: rest) :
    step s = .next (resetEvent { s with program := rest }) := by
  simp only [step, takeTurn, nextTurn_line hp rfl]
  rfl

theorem statusView_resetEvent (s : State) : statusView (resetEvent s) = 0#32 :=
  BitVec.eq_of_toNat_eq (by simp [statusView_toNat, busy_eq, phaseBits, errBits])

/-- A write line of CMD is held while PHASE is not IDLE (20_memory R68). -/
theorem lineHeld_cmd {s : State} (v : Word) (hwf : s.params.wf = true) (hbusy : s.phase ≠ .idle) :
    lineHeld (writeLine s.params .cmd v) s = true := by
  have hr : regOfAccess s.params (s.params.base + regOffset .cmd) .word = .ok .cmd :=
    regOfAccess_reg (by have := (Params.wf_iff _).1 hwf; omega) .cmd
  have hcmd := (isCommandWrite_iff s.params _).2 ⟨_, _, v, rfl, hr⟩
  simp [writeLine, lineHeld, held, busy_eq, hbusy, hcmd]

/-- RESET right after a held write takes its step before the write, which stays (70_reset R250). -/
theorem step_reset_while_held {s : State} {w : Line} {after : List Line} (hh : lineHeld w s = true)
    (hp : s.program = w :: .reset :: after) : step s = .next (resetEvent { s with program := w :: after }) := by
  have hn : nextTurn s = takeLine .reset (w :: after) s := by
    simp [nextTurn, hp, hh, turnWhileHeld, isHostLine]
  simp only [step, takeTurn, hn]
  rfl

end Sys2Proof.Machine
end

section
/-! Statements of 10_state about the views, and RESET. -/

open Sys2Proof Sys2Proof.Machine

/-- Settles O12, field by field of the sum. -/
theorem statusShowsEveryFlag : Obligations.StatusShowsEveryFlag := by
  intro s
  refine (statusView_toNat s).trans
    (congrArg₂ (· + ·) (congrArg₂ (· + ·) (congrArg₂ (· + ·) ?busy ?cfg) ?phase) ?err)
  case busy =>
    rw [busy_eq]
    cases s.phase <;> rfl
  case cfg => cases s.cfg <;> rfl
  case phase => cases s.phase <;> rfl
  case err => cases s.err <;> rfl

/-- Settles O14: the views are the banks masked to K bits. -/
theorem keyViewsHaveOneBitPerKey : Obligations.KeyViewsHaveOneBitPerKey := by
  intro s k hwf hk1 _
  obtain ⟨-, -, -, -, hK, -⟩ := (Params.wf_iff s.params).1 hwf
  have hk : k - 1 < s.params.numKeys ↔ k ≤ s.params.numKeys := by omega
  simp [readReg, latchView, pinsView, getLsbD_and_mask _ hK, hk, latchOf, pinOf, bankBit]

/-- Settles O15: the fields of PARAM do not overlap, so the word is their sum. -/
theorem paramHoldsTheParameters : Obligations.ParamHoldsTheParameters :=
  ⟨fun _ hwf => paramView_toNat hwf, fun _ hp => (congrArg paramView hp).trans paramView_default⟩

/-- Settles O20: in both cases the step is RESET, with the lines that stay. -/
theorem resetWritesEveryElement : Obligations.ResetWritesEveryElement := by
  intro s rest kept h
  have hstep : step s = .next (resetEvent { s with program := kept }) := by
    rcases h with ⟨hp, rfl⟩ | ⟨v, after, hwf, hbusy, hp, rfl⟩
    · exact step_reset hp
    · exact step_reset_while_held (lineHeld_cmd v hwf hbusy) hp
  exact ⟨_, hstep, rfl, statusView_resetEvent _, fun hp => (congrArg paramView hp).trans paramView_default⟩
end

section
/-! SUPPORT. The Host's next line as a step: a word read of a register, a refused access, a CMD write that is issued,
and a CMD write that is held (20_memory R61 to R68). -/

namespace Sys2Proof.Machine

/-! ## An access that is not held -/

theorem regOfAccess_reg_of_wf {p : Params} (h : p.wf = true) (r : Reg) :
    regOfAccess p (p.base + regOffset r) .word = .ok r :=
  regOfAccess_reg (by have := (Params.wf_iff p).1 h; omega) r

theorem step_access {s : State} {a : Access} {rest : List Line} (hp : s.program = .host (.access a) :: rest)
    (hh : held a s = false) : step s = performAccess a { s with program := rest } := by
  simp only [step, takeTurn, nextTurn_line hp hh]
  rfl

/-- The lines still to come are no part of what a register reads. -/
theorem readReg_withProgram (r : Reg) (s : State) (p : List Line) :
    readReg r { s with program := p } = readReg r s := by
  cases r <;> rfl

/-- A read is never held, so a read line of a register returns its value in the next step (20_memory R65, R68). -/
theorem step_read {s : State} {r : Reg} {rest : List Line} (hwf : s.params.wf = true)
    (hp : s.program = readLine s.params r :: rest) :
    step s = .next { s with program := rest, lastRead := some (readReg r s) } := by
  rw [step_access hp (by simp [held, isCommandWrite])]
  simp only [performAccess, regOfAccess_reg_of_wf hwf, busRead, readReg_withProgram]

/-- A write to a register other than CMD writes an ARG register or nothing (20_memory R62, R66). -/
theorem busWrite_of_ne_cmd {r : Reg} (hr : r ≠ .cmd) (v : Word) (s : State) :
    busWrite r v s = .next
      (if r = .arg0 then { s with arg0 := v }
       else if r = .arg1 then { s with arg1 := v }
       else if r = .arg2 then { s with arg2 := v }
       else s) := by
  cases r
  case cmd => exact absurd rfl hr
  all_goals rfl

theorem issueWord_ok {v : Word} {i : Instr} (h : decodeWord v = .ok i) (s : State) : issueWord v s = exec i s := by
  simp only [issueWord, h]

theorem issueWord_error {v : Word} {e : DecodeError} (h : decodeWord v = .error e) (s : State) :
    issueWord v s = .next (fail (errOfDecode e) s) := by
  simp only [issueWord, h]

/-! ## An access that is refused -/

theorem regOfAccess_outsideWindow {p : Params} {addr : Nat} (size : AccessSize)
    (h : addr < p.base ∨ p.base + 0x40 ≤ addr) : regOfAccess p addr size = .error .outsideWindow := by
  rw [regOfAccess, if_pos h]

theorem regOfAccess_busError {p : Params} {addr : Nat} {size : AccessSize} (hlo : p.base ≤ addr)
    (hhi : addr < p.base + 0x40) (h : size ≠ .word ∨ addr % 4 ≠ 0) :
    regOfAccess p addr size = .error .busError := by
  rw [regOfAccess, if_neg (by omega), if_pos h]

/-- An access that selects no register is refused; it is not held, whatever PHASE is (20_memory R61, R64). -/
theorem step_access_refused {s : State} {addr : Nat} {size : AccessSize} {v : Word} {rest : List Line} {e : Refusal}
    (he : regOfAccess s.params addr size = .error e)
    (hp : s.program = .host (.access (.read addr size)) :: rest
      ∨ s.program = .host (.access (.write addr size v)) :: rest) : step s = .refused e := by
  rcases hp with hp | hp
  all_goals
    rw [step_access hp (by simp [held, isCommandWrite, he])]
    simp only [performAccess, he]

/-! ## A CMD write that is held -/

/-- Behind a held write with no environment line right after it, a COUNT event is next (20_memory R68; log 3). -/
theorem step_count_while_held {s : State} {w : Line} {rest : List Line} (hh : lineHeld w s = true)
    (hp : s.program = w :: rest) (hrest : rest = [] ∨ ∃ l after, rest = .host l :: after) :
    step s = .next (countEvent s) := by
  have hn : nextTurn s = (.count, s) := by
    rcases hrest with rfl | ⟨l, after, rfl⟩ <;> simp [nextTurn, hp, hh, turnWhileHeld, isHostLine]
  simp only [step, takeTurn, hn, perform]

/-- The environment line right after a held write has the next event, and the write comes next after it
(20_memory R68; log 3). -/
theorem step_env_while_held {s : State} {w e : Line} {after : List Line} (hh : lineHeld w s = true)
    (he : isHostLine e = false) (hp : s.program = w :: e :: after) :
    step s = perform (firstEvent e).1 { s with program := (firstEvent e).2 ++ w :: after } := by
  have hn : nextTurn s = takeLine e (w :: after) s := by
    simp [nextTurn, hp, hh, turnWhileHeld, he]
  simp only [step, takeTurn, hn, takeLine]

/-- A pin event of a key in 1..K is not refused (43_debounce R191). -/
theorem perform_pin_of_key {s : State} {k : Nat} (h1 : 1 ≤ k) (hK : k ≤ s.params.numKeys) (level : Bool) :
    perform (.pin k level) s = .next (setPin k level s) := by
  simp [perform, pinTurn, keyInRange, h1, hK]

end Sys2Proof.Machine
end

section
/-! SUPPORT. The bytes of a bus word as numbers (20_memory R63). -/

namespace Sys2Proof

theorem wordOfBytes_toNat (b0 b1 b2 b3 : Byte) :
    (wordOfBytes b0 b1 b2 b3).toNat
      = b0.toNat + 256 * b1.toNat + 65536 * b2.toNat + 16777216 * b3.toNat := by
  simp only [wordOfBytes, Machine.toNat_append_eq_add]
  omega

theorem byteOfWord_toNat (v : Word) (n : Nat) : (byteOfWord v n).toNat = v.toNat / 2 ^ (8 * n) % 256 := by
  simp [byteOfWord, BitVec.extractLsb'_toNat, Nat.shiftRight_eq_div_pow]

end Sys2Proof
end

section
/-! Statements of 20_memory: the order of bytes, the registers, the bus accesses and the held write. -/

open Sys2Proof Sys2Proof.Machine

/-- Settles O6: the CMD write is held, so the line after it decides the event. -/
theorem commandWriteIsHeldWhileBusy : Obligations.CommandWriteIsHeldWhileBusy := by
  rintro s w v rest hwf hbusy rfl hp
  have hh := lineHeld_cmd v hwf hbusy
  refine ⟨step_count_while_held hh hp, ?count, ?countMore, ?pin, ?reset⟩
  case count | countMore | reset =>
    intros
    subst rest
    exact step_env_while_held hh rfl hp
  case pin =>
    rintro k level after rfl h1 hK
    exact (step_env_while_held hh rfl hp).trans (perform_pin_of_key h1 (by exact hK) level)

/-- Settles O7: accesses and pin events keep PHASE, and no command word is issued while PHASE is not IDLE. -/
theorem onlyCountOrResetEndsTheHold : Obligations.OnlyCountOrResetEndsTheHold := by
  intro s t h hbusy ht
  cases step_event h with
  | access a0 a1 a2 p r l h =>
    subst h
    exact absurd ht hbusy
  | badWord e p r hidle h => exact absurd hidle hbusy
  | command i p r hn hidle h => exact absurd hidle hbusy
  | count p r hn h => exact .inl hn
  | pin k level p r hn h =>
    subst h
    exact absurd ht hbusy
  | reset p r hn h => exact .inr hn

/-- Settles O9: the read line of a register is one read. -/
theorem busReadReturnsTheRegister : Obligations.BusReadReturnsTheRegister := fun _ _ _ => step_read

/-- Settles O11: the plain registers are their elements, and the views are sums of their fields. -/
theorem registerOffsetsAndReadValues : Obligations.RegisterOffsetsAndReadValues := by
  refine ⟨rfl, fun s => ⟨?plain, ?status, fun hwf => ?views⟩⟩
  case plain =>
    have htick : (readReg .tickPeriod s).toNat = s.tickPeriod.toNat := BitVec.toNat_setWidth_of_le (by decide)
    exact ⟨rfl, rfl, rfl, rfl, rfl, rfl, rfl, rfl, rfl, rfl, rfl, htick⟩
  case status =>
    have hb : (busy s).toNat = if s.phase = .idle then 0 else 1 := by
      rw [busy_eq]
      cases s.phase <;> rfl
    have hc : s.cfg.toNat * 2 = if s.cfg then 2 else 0 := by cases s.cfg <;> rfl
    rw [← hb, ← hc, readReg, statusView_toNat]
    omega
  case views =>
    obtain ⟨-, -, -, -, hK, -⟩ := (Params.wf_iff s.params).1 hwf
    exact ⟨and_mask_toNat _ hK, and_mask_toNat _ hK, paramView_toNat hwf⟩

/-- Settles O16: such a write is not held, and is the bus write of its register. -/
theorem busWriteOfTheOtherRegisters : Obligations.BusWriteOfTheOtherRegisters := by
  intro s r v rest hwf hr hp
  rw [step_write hwf hp (.inl hr), busWrite_of_ne_cmd hr]

/-- Settles O17: such an access selects no register. -/
theorem illegalAccessesAreRefused : Obligations.IllegalAccessesAreRefused := fun _ _ size _ _ hp =>
  ⟨fun hlo hhi h => step_access_refused (regOfAccess_busError hlo hhi h) hp,
    fun h => step_access_refused (regOfAccess_outsideWindow size h) hp⟩

/-- Settles O4: the word is the little-endian sum of its bytes, and each byte is a digit of it in base 256. -/
theorem busWordIsLittleEndian : Obligations.BusWordIsLittleEndian := by
  intro b0 b1 b2 b3
  have hsum := wordOfBytes_toNat b0 b1 b2 b3
  refine ⟨hsum, ?_, ?_, ?_, ?_⟩
  all_goals
    apply BitVec.eq_of_toNat_eq
    rw [byteOfWord_toNat, hsum]
    omega

/-- Settles O5: the write is not held while PHASE = IDLE, so its word is issued. -/
theorem stepRunsTheDecodedCommand : Obligations.StepRunsTheDecodedCommand := by
  intro s v rest hwf hidle hp
  have hstep : step s = issueWord v { s with program := rest } := step_write (r := .cmd) hwf hp (.inr hidle)
  refine ⟨fun i hi => hstep.trans (issueWord_ok hi _), fun e he => ?_⟩
  rw [hstep, issueWord_error he]
  cases e <;> rfl
end

section
/-! SUPPORT. The decoder read backwards: a word that decodes is the command's own word, and ILLEGAL_OP is the answer for
an OP outside the map only (30_encoding R97, R98). -/

namespace Sys2Proof

/-- The map has the OPs 1 to 9 and no other (30_encoding R93). -/
theorem instrOfOp_eq_none_iff {op : Byte} : instrOfOp op = none ↔ op.toNat = 0 ∨ 9 < op.toNat := by
  refine ⟨fun h => ?_, instrOfOp_none⟩
  by_contra hop
  have h1 : 1 ≤ op.toNat := by omega
  have h9 : op.toNat ≤ 9 := by omega
  rw [instrOfOp] at h
  interval_cases op.toNat <;> cases h

/-- An OP of the map is the word of the command it selects (30_encoding R93, R97). -/
theorem toNat_eq_encode_of_instrOfOp {op : Byte} {i : Instr} (h : instrOfOp op = some i) :
    op.toNat = (encode i).toNat := by
  unfold instrOfOp at h
  split at h
  case h_10 => cases h
  all_goals
    cases h
    assumption

/-- Only KEY_READ, in either mode, has a continuous form (30_encoding R98). -/
theorem continuousForm_eq_some {i c : Instr} (h : continuousForm i = some c) :
    c = .keyReadC ∧ (i = .keyRead ∨ i = .keyReadC) := by
  cases i <;> cases h <;> simp

/-- A word that decodes has RSV = 0, and its OP and MODE select the command (30_encoding R92, R98). -/
theorem decodeWord_eq_ok {v : Word} {i : Instr} (h : decodeWord v = .ok i) :
    ∃ j, instrOfOp (opField v) = some j ∧ rsvField v = 0#23
      ∧ (modeBit v = false ∧ i = j ∨ modeBit v = true ∧ continuousForm j = some i) := by
  unfold decodeWord at h
  split at h
  case h_1 => cases h
  case h_2 j hj =>
    split at h
    case isTrue => cases h
    case isFalse hrsv =>
      refine ⟨j, hj, not_not.1 hrsv, ?_⟩
      split at h
      case isTrue hmode =>
        split at h
        case h_1 c hc =>
          cases h
          exact .inr ⟨hmode, hc⟩
        case h_2 => cases h
      case isFalse hmode =>
        cases h
        exact .inl ⟨Bool.eq_false_iff.2 hmode, rfl⟩

/-- A word is OP, 256 times MODE and 512 times RSV (30_encoding R90). -/
theorem toNat_eq_fields (v : Word) :
    v.toNat = (opField v).toNat + 256 * (modeBit v).toNat + 512 * (rsvField v).toNat := by
  have hmode : (modeBit v).toNat = v.toNat / 256 % 2 := by
    rw [modeBit_eq]
    rcases Nat.mod_two_eq_zero_or_one (v.toNat / 256) with h | h <;> simp [h]
  rw [opField_toNat, hmode, rsvField_toNat]
  omega

theorem decodeWord_encode : ∀ i, decodeWord (encode i) = .ok i
  | .init => Laws.RoundTrip.init
  | .nowMs => Laws.RoundTrip.nowMs
  | .nowUs => Laws.RoundTrip.nowUs
  | .sample => Laws.RoundTrip.sample
  | .delayMs => Laws.RoundTrip.delayMs
  | .delayUs => Laws.RoundTrip.delayUs
  | .encode => Laws.RoundTrip.encode
  | .decode => Laws.RoundTrip.decode
  | .keyRead => Laws.RoundTrip.keyRead
  | .keyReadC => Laws.RoundTrip.keyReadC

theorem decodeWord_eq_ok_iff (v : Word) (i : Instr) : decodeWord v = .ok i ↔ v = encode i := by
  refine ⟨fun h => BitVec.eq_of_toNat_eq ?_, fun h => h ▸ decodeWord_encode i⟩
  obtain ⟨j, hop, hrsv, hmode⟩ := decodeWord_eq_ok h
  rw [toNat_eq_fields, toNat_eq_encode_of_instrOfOp hop, hrsv]
  rcases hmode with ⟨hm, rfl⟩ | ⟨hm, hc⟩
  · simp [hm]
  · have hlt := (opField v).isLt
    rw [toNat_eq_encode_of_instrOfOp hop] at hlt
    obtain ⟨rfl, rfl | rfl⟩ := continuousForm_eq_some hc
    · simp [hm, encode]
    · simp [encode] at hlt

theorem decodeWord_eq_illegalOp_iff (v : Word) :
    decodeWord v = .error .illegalOp ↔ v.toNat % 256 = 0 ∨ 9 < v.toNat % 256 := by
  rw [← opField_toNat, ← instrOfOp_eq_none_iff]
  unfold decodeWord
  split
  case h_1 hn => simp [hn]
  case h_2 j hj =>
    rw [hj]
    repeat' split
    all_goals simp

/-- The ten words have RSV = 0, and MODE = 1 with OP 9 only (30_encoding R97). -/
theorem encode_reserved (i : Instr) :
    (encode i).toNat / 512 = 0 ∧ ((encode i).toNat / 256 % 2 = 1 → (encode i).toNat % 256 = 9) := by
  cases i <;> decide

/-- A word whose OP is in the map, but which is none of the ten, has a reserved bit set (30_encoding R98). -/
theorem decodeWord_reservedBits {v : Word} (hop1 : 1 ≤ v.toNat % 256) (hop9 : v.toNat % 256 ≤ 9)
    (h : v.toNat / 512 ≠ 0 ∨ (v.toNat / 256 % 2 = 1 ∧ v.toNat % 256 ≠ 9)) :
    decodeWord v = .error .reservedBits := by
  rcases hd : decodeWord v with e | i
  · cases e with
    | illegalOp =>
      have := (decodeWord_eq_illegalOp_iff v).1 hd
      omega
    | reservedBits => rfl
  · obtain rfl := (decodeWord_eq_ok_iff v i).1 hd
    obtain ⟨hrsv, hmode⟩ := encode_reserved i
    omega

end Sys2Proof
end

section
/-! SUPPORT. Lines as steps: a line that is not held, a POLL, a COUNT line as a whole, and the lines of a
pseudo-instruction (30_encoding R99, R100). -/

namespace Sys2Proof.Machine

/-- The first event of a line that is not held is the next step (30_encoding R99). -/
theorem step_line {s : State} {l : Line} {rest : List Line} (hp : s.program = l :: rest) (hh : lineHeld l s = false) :
    step s = perform (firstEvent l).1 { s with program := (firstEvent l).2 ++ rest } := by
  simp only [step, takeTurn, nextTurn_line hp hh, takeLine]

theorem readReg_status_bit0 (s : State) : (readReg .status s).getLsbD 0 = busy s := by
  simp only [readReg, statusView, BitVec.getLsbD_append]
  simp

/-- What a POLL read shows and which lines it leaves, in terms of the value read (30_encoding R100; log 3). -/
theorem pollStatus_eq (s : State) :
    pollStatus s = { s with
      lastRead := some (readReg .status s)
      program := if (readReg .status s).getLsbD 0 then .count 0 :: .host .poll :: s.program else s.program } := by
  rw [readReg_status_bit0]
  unfold pollStatus
  split <;> rfl

theorem countEvent_withProgram (s : State) (p : List Line) :
    countEvent { s with program := p } = { countEvent s with program := p } :=
  (countEvent_withLines s p s.round).trans (by simp only [countEvent_round])

theorem run_count_line {s : State} {n : Nat} {rest : List Line} (hp : s.program = .count n :: rest) :
    Host.Core.run core (n + 1) s = .next (counts (n + 1) { s with program := rest }) := by
  induction n generalizing s with
  | zero => exact (run_one s).trans (step_line hp rfl)
  | succ n ih =>
    have hstep : step s = .next (countEvent { s with program := .count n :: rest }) := step_line hp rfl
    rw [run_next _ hstep, ih (countEvent_program _), ← countEvent_withProgram]
    rfl

/-! ## Pseudo-instructions: operand writes, then the command -/

/-- What a write to a register other than CMD leaves: an ARG register takes the data, a read-only one ignores it
(20_memory R62, R66). -/
def writeOperand (s : State) (w : Reg × Word) : State :=
  match w.1 with
  | .arg0 => { s with arg0 := w.2 }
  | .arg1 => { s with arg1 := w.2 }
  | .arg2 => { s with arg2 := w.2 }
  | _ => s

theorem busWrite_eq_writeOperand {w : Reg × Word} (hw : w.1 ≠ .cmd) (s : State) (p : List Line) :
    busWrite w.1 w.2 { s with program := p } = .next { writeOperand s w with program := p } := by
  obtain ⟨r, v⟩ := w
  cases r
  case cmd => exact absurd rfl hw
  all_goals rfl

theorem writeOperand_keeps (s : State) (w : Reg × Word) :
    (writeOperand s w).params = s.params ∧ (writeOperand s w).phase = s.phase
      ∧ (writeOperand s w).program = s.program := by
  unfold writeOperand
  split <;> exact ⟨rfl, rfl, rfl⟩

/-- A write line placed before other lines does its write in the next step (20_memory R66 to R68). -/
theorem step_placed_write {s : State} {r : Reg} (v : Word) (rest : List Line) (hwf : s.params.wf = true)
    (hb : r ≠ .cmd ∨ s.phase = .idle) :
    step { s with program := writeLine s.params r v :: rest } = busWrite r v { s with program := rest } :=
  step_write (s := { s with program := writeLine s.params r v :: rest }) hwf rfl hb

/-- The lines of a command: its operands are written before CMD (30_encoding R94). -/
def commandLines (p : Params) (i : Instr) (ops : List (Reg × Word)) : List Line :=
  ops.map (fun w => writeLine p w.1 w.2) ++ [writeLine p .cmd (encode i)]

/-- The lines of a command, as the only lines of an idle block, run to the command's outcome on the operands
(30_encoding R94). -/
theorem run_commandLines (i : Instr) {ops : List (Reg × Word)} (hops : ∀ w ∈ ops, w.1 ≠ .cmd) {s : State}
    (hwf : s.params.wf = true) (hidle : s.phase = .idle) (hnil : s.program = []) :
    Host.Core.run core (ops.length + 1) { s with program := commandLines s.params i ops }
      = exec i (ops.foldl writeOperand s) := by
  induction ops generalizing s with
  | nil =>
    have hstep : step { s with program := commandLines s.params i [] } = exec i { s with program := [] } :=
      (step_placed_write _ [] hwf (.inr hidle)).trans (issueWord_ok (decodeWord_encode i) _)
    rw [← hnil] at hstep
    exact (run_one _).trans hstep
  | cons w ops ih =>
    have hw : w.1 ≠ .cmd := hops w List.mem_cons_self
    obtain ⟨hpar, hph, hprog⟩ := writeOperand_keeps s w
    have hlines : commandLines s.params i ops = commandLines (writeOperand s w).params i ops := by rw [hpar]
    have hstep : step { s with program := commandLines s.params i (w :: ops) }
        = .next { writeOperand s w with program := commandLines s.params i ops } :=
      (step_placed_write _ _ hwf (.inl hw)).trans (busWrite_eq_writeOperand hw s _)
    rw [hlines] at hstep
    exact (run_next _ hstep).trans (ih (fun u hu => hops u (List.mem_cons_of_mem w hu)) (hpar ▸ hwf)
      (hph.trans hidle) (hprog.trans hnil))

/-- A pseudo-instruction that expands to the lines of a command runs to the command's outcome (30_encoding R100). -/
theorem run_pseudo (i : Instr) (ops : List (Reg × Word)) (hops : ∀ w ∈ ops, w.1 ≠ .cmd) {q : Pseudo} {s : State}
    (hq : expandPseudo s.params q = commandLines s.params i ops) (hwf : s.params.wf = true) (hidle : s.phase = .idle)
    (hnil : s.program = []) :
    Host.Core.run core (ops.length + 1) (loadProgram [.pseudo q] s) = exec i (ops.foldl writeOperand s) := by
  rw [← run_commandLines i hops hwf hidle hnil, ← hq]
  simp [loadProgram, expandLine, hnil]

end Sys2Proof.Machine
end

section
/-! Statements of 30_encoding: the command words, the COUNT line, the pseudo-instructions and POLL. -/

open Sys2Proof Sys2Proof.Machine

/-- Settles O1: OP, MODE and RSV make up the word, and those of a word that decodes are the command's. -/
theorem legalWordsAreExactlyTheTen : Obligations.LegalWordsAreExactlyTheTen :=
  ⟨decodeWord_eq_ok_iff, rfl, rfl, rfl, rfl, rfl, rfl, rfl, rfl, rfl, rfl⟩

/-- Settles O2: the word decodes to the error, which is the code of the failure. -/
theorem badWordsFailAndChangeNothingElse : Obligations.BadWordsFailAndChangeNothingElse := fun v s =>
  ⟨fun hop => issueWord_error ((decodeWord_eq_illegalOp_iff v).2 hop) s,
    fun h1 h9 h => issueWord_error (decodeWord_reservedBits h1 h9 h) s⟩

/-- Settles O58, by induction on the length of the line. -/
theorem countLineRunsInARow : Obligations.CountLineRunsInARow := fun _ _ _ => run_count_line

/-- Settles O59: each expansion is a list of operand writes and then the command's word. -/
theorem pseudoInstructionsIssueTheirCommand : Obligations.PseudoInstructionsIssueTheirCommand := by
  intro s hwf hidle hnil
  refine ⟨fun b p sd => ?init, ?nowMs, ?nowUs, ?sample, fun n => ?delayMs, fun n => ?delayUs, fun g p sb => ?encode,
    fun g r => ?decode, fun k => ?keyRead, fun k => ?keyReadC⟩
  case init => exact run_pseudo .init [(.arg0, b), (.arg1, p), (.arg2, sd)] (by simp) rfl hwf hidle hnil
  case nowMs => exact run_pseudo .nowMs [] (by simp) rfl hwf hidle hnil
  case nowUs => exact run_pseudo .nowUs [] (by simp) rfl hwf hidle hnil
  case sample => exact run_pseudo .sample [] (by simp) rfl hwf hidle hnil
  case delayMs => exact run_pseudo .delayMs [(.arg0, n)] (by simp) rfl hwf hidle hnil
  case delayUs => exact run_pseudo .delayUs [(.arg0, n)] (by simp) rfl hwf hidle hnil
  case encode => exact run_pseudo .encode [(.arg0, g), (.arg1, p), (.arg2, sb)] (by simp) rfl hwf hidle hnil
  case decode => exact run_pseudo .decode [(.arg0, g), (.arg1, r)] (by simp) rfl hwf hidle hnil
  case keyRead => exact run_pseudo .keyRead [(.arg0, k)] (by simp) rfl hwf hidle hnil
  case keyReadC => exact run_pseudo .keyReadC [(.arg0, k)] (by simp) rfl hwf hidle hnil

/-- Settles O3: six of the words are those of their commands, the others have a field out of its range. -/
theorem wordsWrittenInBitsDecode : Obligations.WordsWrittenInBitsDecode :=
  ⟨decodeWord_encode .init, decodeWord_encode .sample, decodeWord_encode .delayUs, decodeWord_encode .decode,
    decodeWord_encode .keyRead, decodeWord_encode .keyReadC, rfl, rfl, rfl⟩

/-- Settles O10: bit 0 of the STATUS value read is BUSY, which decides whether the line stays. -/
theorem pollReadsStatusUntilNotBusy : Obligations.PollReadsStatusUntilNotBusy := by
  intro s rest hp
  have hstep : step s = .next (pollStatus { s with program := rest }) := step_line hp rfl
  rw [hstep, pollStatus_eq, readReg_withProgram, hp]
end

section
/-! SUPPORT. COUNT events on a configured clock (40_clock R131, R133): what one does to the counter and to a reading,
and the closed forms of n of them from any state of the invariant. -/

namespace Sys2Proof.Machine

/-! ## The readings -/

/-- Units of a reading in one millisecond of ELAPSED (00_scope R15). -/
def unitsPerMs : TimeUnit → Nat
  | .ms => 1
  | .us => 1000

/-- A reading is ELAPSED in its unit minus the whole units still to go in the counter (00_scope R15). -/
theorem nowVal_eq {u : TimeUnit} {s : State} (h : 1 ≤ unitCounts u s) :
    nowVal u s
      = s.elapsed * BitVec.ofNat 32 (unitsPerMs u) - BitVec.ofNat 32 (s.cvr.toNat / unitCounts u s) := by
  have hquot {a b : Word} (hb : 1 ≤ b.toNat) : quotient a b = BitVec.ofNat 32 (a.toNat / b.toNat) := by
    rw [← quotient_toNat a (by omega), BitVec.ofNat_toNat, BitVec.setWidth_eq]
  cases u with
  | ms => simp only [nowVal, nowMsVal, unitsPerMs, unitCounts, hquot h, BitVec.mul_one]
  | us => simp only [nowVal, nowUsVal, unitsPerMs, unitCounts, hquot h]

/-- With the counter at 0 a reading is ELAPSED in its unit (40_clock R125). -/
theorem nowVal_of_cvr_zero {u : TimeUnit} {s : State} (h : 1 ≤ unitCounts u s) (hz : s.cvr = 0#32) :
    nowVal u s = s.elapsed * BitVec.ofNat 32 (unitsPerMs u) := by
  simp [nowVal_eq h, hz]

theorem ClockConfigured.unitCounts_pos {s : State} (h : ClockConfigured s) (u : TimeUnit) : 1 ≤ unitCounts u s := by
  obtain ⟨hus, hms, -⟩ := h
  cases u <;> simp only [unitCounts] <;> omega

/-- A tick period is the same length counted in either unit (10_state R27). -/
theorem ClockConfigured.reload_eq {s : State} (h : ClockConfigured s) (u : TimeUnit) :
    s.reload.toNat + 1 = s.tickPeriod.toNat * unitsPerMs u * unitCounts u s := by
  obtain ⟨-, hms, -, -, hreload, -⟩ := h
  rw [hreload]
  cases u
  case ms => rw [unitsPerMs, unitCounts, Nat.mul_one]
  case us => rw [unitsPerMs, unitCounts, Nat.mul_assoc, hms]

theorem ClockConfigured.unit_dvd_period {s : State} (h : ClockConfigured s) (u : TimeUnit) :
    unitCounts u s ∣ s.reload.toNat + 1 :=
  h.reload_eq u ▸ Nat.dvd_mul_left ..

theorem ClockConfigured.cvr_le {s : State} (h : ClockConfigured s) : s.cvr.toNat ≤ s.reload.toNat := by
  obtain ⟨-, -, -, -, -, -, -, hle⟩ := h
  exact hle

/-! ## Counting down past whole units -/

/-- Of n steps that count down from c, those that start at a multiple of U: c % U steps lead to the first, and every
U-th follows. -/
def unitsPassed (U c n : Nat) : Nat := (n + (U - 1 - c % U)) / U

theorem unitsPassed_zero {U : Nat} (hU : 1 ≤ U) (c : Nat) : unitsPassed U c 0 = 0 :=
  Nat.div_eq_of_lt (by omega)

/-- One step from c to c', down by 1 or from a multiple of U to just below another, passes a unit where it starts. -/
theorem unitsPassed_succ {U c c' : Nat} (hU : 1 ≤ U) (h : c = c' + 1 ∨ (U ∣ c ∧ U ∣ c' + 1)) (n : Nat) :
    unitsPassed U c (n + 1) = unitsPassed U c' n + if U ∣ c then 1 else 0 := by
  unfold unitsPassed
  by_cases hd : U ∣ c
  · have hlast : c' % U = U - 1 := (Nat.mod_eq_sub_iff Nat.one_pos hU).2 (h.elim (fun e => e ▸ hd) And.right)
    rw [if_pos hd, Nat.mod_eq_zero_of_dvd hd, hlast, ← Nat.add_div_right _ hU]
    congr 1
    omega
  · obtain rfl : c = c' + 1 := by tauto
    have hlt : c' % U + 1 < U := by
      have hne : c' % U ≠ U - 1 := (Nat.mod_eq_sub_iff Nat.one_pos hU).not.2 hd
      have hmod := Nat.mod_lt c' hU
      omega
    rw [if_neg hd, ← Nat.mod_add_mod c', Nat.mod_eq_of_lt hlt]
    congr 1
    omega

/-- From 0 the first step passes a unit, and then every U-th. -/
theorem unitsPassed_from_zero {U n : Nat} (hU : 1 ≤ U) (hn : 1 ≤ n) : unitsPassed U 0 n = 1 + (n - 1) / U := by
  rw [unitsPassed, Nat.zero_mod, Nat.add_comm 1, ← Nat.add_div_right _ hU]
  congr 1
  omega

/-- From 0, a unit k + 1 times as long is passed as often as the unit is, divided by k + 1 and rounded up. -/
theorem unitsPassed_mul_from_zero {U : Nat} (hU : 1 ≤ U) (k n : Nat) :
    unitsPassed (U * (k + 1)) 0 n = (unitsPassed U 0 n + k) / (k + 1) := by
  have hlen : U * (k + 1) = k * U + U := by rw [Nat.mul_succ, Nat.mul_comm]
  simp only [unitsPassed, Nat.zero_mod, Nat.sub_zero]
  rw [← Nat.add_mul_div_right _ _ hU, Nat.div_div_eq_div_mul]
  congr 1
  omega

/-- U * k steps pass k units at most. -/
theorem unitsPassed_le {U c n k : Nat} (hU : 1 ≤ U) (hn : n ≤ U * k) : unitsPassed U c n ≤ k := by
  rw [unitsPassed, ← Nat.lt_succ_iff, Nat.div_lt_iff_lt_mul hU, Nat.succ_mul, Nat.mul_comm k]
  omega

/-! ## One COUNT event -/

/-- While PHASE = IDLE a COUNT that finds the counter at 0 reloads it and ticks (40_clock R131). -/
theorem countEvent_idle_tick {s : State} (hcfg : s.cfg = true) (hidle : s.phase = .idle) (hz : s.cvr = 0#32) :
    countEvent s
      = { s with cvr := s.reload, elapsed := s.elapsed + BitVec.ofNat 32 s.tickPeriod.toNat } := by
  rw [countEvent, if_pos hcfg, advanceCounter, if_pos hz, completionCheck_eq, if_pos (.inl hidle), BitVec.ofNat_toNat]

/-- While PHASE = IDLE a COUNT that does not find the counter at 0 takes one from it (40_clock R131). -/
theorem countEvent_idle_decrement {s : State} (hcfg : s.cfg = true) (hidle : s.phase = .idle) (hz : s.cvr ≠ 0#32) :
    countEvent s = { s with cvr := s.cvr - 1#32 } := by
  rw [countEvent, if_pos hcfg, advanceCounter, if_neg hz, completionCheck_eq, if_pos (.inl hidle)]
  rfl

/-- A COUNT on a configured clock reloads and ticks, or takes one from the counter (40_clock R131). -/
theorem countEvent_clock_cases {s : State} (hcfg : s.cfg = true) :
    (s.cvr.toNat = 0 ∧ (countEvent s).cvr = s.reload
        ∧ (countEvent s).elapsed = s.elapsed + BitVec.ofNat 32 s.tickPeriod.toNat)
      ∨ (s.cvr.toNat = (countEvent s).cvr.toNat + 1 ∧ (countEvent s).elapsed = s.elapsed) := by
  have he : countEvent s = completionCheck (advanceCounter s) := by rw [countEvent, if_pos hcfg]
  rcases advanceCounter_cases s with ⟨hz, ha⟩ | ⟨hz, ha⟩
  · exact .inl (by simp [he, ha, hz])
  · refine .inr ⟨?_, by simp [he, ha]⟩
    rw [he, completionCheck_cvr, ha]
    show s.cvr.toNat = (s.cvr - 1#32).toNat + 1
    bv_omega

/-- A COUNT takes one from the counter, or takes it from 0 to the end of a period, which is a whole number of units. -/
theorem countEvent_cvr_step {s : State} (hcfg : s.cfg = true) {U : Nat} (hU : U ∣ s.reload.toNat + 1) :
    s.cvr.toNat = (countEvent s).cvr.toNat + 1 ∨ (U ∣ s.cvr.toNat ∧ U ∣ (countEvent s).cvr.toNat + 1) := by
  rcases countEvent_clock_cases hcfg with ⟨hz, hcvr, -⟩ | ⟨hcvr, -⟩
  · exact .inr ⟨hz ▸ Nat.dvd_zero U, hcvr ▸ hU⟩
  · exact .inl hcvr

/-- A COUNT keeps CFG, the units, the period and the reload value (10_state R22 to R26). -/
theorem countEvent_configuration (s : State) :
    (countEvent s).cfg = s.cfg ∧ (countEvent s).usPerUnit = s.usPerUnit ∧ (countEvent s).msPerUnit = s.msPerUnit
      ∧ (countEvent s).tickPeriod = s.tickPeriod ∧ (countEvent s).reload = s.reload := by
  simpa only [configuration, Prod.mk.injEq] using configuration_countEvent s

theorem unitCounts_countEvent (u : TimeUnit) (s : State) : unitCounts u (countEvent s) = unitCounts u s := by
  obtain ⟨-, hus, hms, -⟩ := countEvent_configuration s
  cases u
  · exact congrArg BitVec.toNat hms
  · exact congrArg BitVec.toNat hus

/-- A COUNT raises a reading by 1 exactly when the counter stands at a whole number of its units: the tick adds a period
and the reload takes back all of it but one unit (40_clock R133). -/
theorem nowVal_countEvent {s : State} (u : TimeUnit) (hcfg : s.cfg = true) (hclock : ClockConfigured s) :
    nowVal u (countEvent s) = nowVal u s + if unitCounts u s ∣ s.cvr.toNat then 1#32 else 0#32 := by
  have hU := hclock.unitCounts_pos u
  rw [nowVal_eq hU, nowVal_eq (by rwa [unitCounts_countEvent]), unitCounts_countEvent]
  rcases countEvent_clock_cases hcfg with ⟨hz, hcvr, hel⟩ | ⟨hcvr, hel⟩
  · have hq : s.reload.toNat / unitCounts u s + 1 = s.tickPeriod.toNat * unitsPerMs u := by
      rw [← Nat.succ_div_of_dvd (hclock.unit_dvd_period u), hclock.reload_eq u, Nat.mul_div_cancel _ hU]
    have hword := congrArg (BitVec.ofNat 32) hq
    rw [BitVec.ofNat_add, BitVec.ofNat_mul] at hword
    rw [hel, hcvr, hz, if_pos (Nat.dvd_zero _), Nat.zero_div, BitVec.sub_zero]
    linear_combination -hword
  · rw [hel, hcvr, Nat.succ_div]
    split
    · rw [BitVec.ofNat_add]
      ring
    · simp

/-! ## A row of COUNT events -/

/-- The closed form of the counter: it runs from RELOAD down to 0 once a period (40_clock R133). -/
theorem cvr_counts {s : State} (hs : Inv s) (hcfg : s.cfg = true) (n : Nat) :
    (counts n s).cvr.toNat
      = s.reload.toNat - (n + (s.reload.toNat - s.cvr.toNat)) % (s.reload.toNat + 1) := by
  induction n generalizing s with
  | zero =>
    have hle := (hs.configured hcfg).cvr_le
    rw [counts, Nat.mod_eq_of_lt (by omega)]
    omega
  | succ n ih =>
    have hle := (hs.configured hcfg).cvr_le
    obtain ⟨hcfg', -, -, -, hreload⟩ := countEvent_configuration s
    rw [counts, ih (inv_countEvent hs) (hcfg'.trans hcfg), hreload]
    rcases countEvent_clock_cases hcfg with ⟨hz, hcvr, -⟩ | ⟨hcvr, -⟩
    · rw [hcvr, hz, Nat.sub_self, ← Nat.add_mod_right]
      congr 2
      omega
    · congr 2
      omega

/-- The closed form of ELAPSED: TICK_PERIOD more for every time the counter passes 0 (40_clock R132, R133). -/
theorem elapsed_counts {s : State} (hs : Inv s) (hcfg : s.cfg = true) (n : Nat) :
    (counts n s).elapsed = s.elapsed
      + BitVec.ofNat 32 (s.tickPeriod.toNat * unitsPassed (s.reload.toNat + 1) s.cvr.toNat n) := by
  induction n generalizing s with
  | zero => simp [counts, unitsPassed_zero]
  | succ n ih =>
    have hle := (hs.configured hcfg).cvr_le
    obtain ⟨hcfg', -, -, hperiod, hreload⟩ := countEvent_configuration s
    rw [counts, ih (inv_countEvent hs) (hcfg'.trans hcfg), hreload, hperiod,
      unitsPassed_succ (by omega) (countEvent_cvr_step hcfg (Nat.dvd_refl _))]
    rcases countEvent_clock_cases hcfg with ⟨hz, -, hel⟩ | ⟨hcvr, hel⟩
    · rw [if_pos (by simp [hz]), hel, Nat.mul_succ, BitVec.ofNat_add]
      ring
    · rw [if_neg (Nat.not_dvd_of_pos_of_lt (by omega) (by omega)), hel]
      rfl

/-- The closed form of a reading: n COUNT events raise it by the units of it that they pass (40_clock R133). -/
theorem nowVal_counts {s : State} (u : TimeUnit) (hs : Inv s) (hcfg : s.cfg = true) (n : Nat) :
    nowVal u (counts n s)
      = nowVal u s + BitVec.ofNat 32 (unitsPassed (unitCounts u s) s.cvr.toNat n) := by
  induction n generalizing s with
  | zero => simp [counts, unitsPassed_zero ((hs.configured hcfg).unitCounts_pos u)]
  | succ n ih =>
    have hclock := hs.configured hcfg
    obtain ⟨hcfg', -⟩ := countEvent_configuration s
    rw [counts, ih (inv_countEvent hs) (hcfg'.trans hcfg), unitCounts_countEvent, nowVal_countEvent u hcfg hclock,
      unitsPassed_succ (hclock.unitCounts_pos u) (countEvent_cvr_step hcfg (hclock.unit_dvd_period u)),
      BitVec.ofNat_add, add_assoc, add_comm (ite ..)]
    split <;> rfl

end Sys2Proof.Machine
end

section
/-! SUPPORT. INIT: which check decides (40_clock R123), and the state right after one that succeeds (R125); what the
commands that read the clock (R127 to R129) and the codec's can do. -/

namespace Sys2Proof.Machine

/-! ## INIT's checks -/

theorem initError_ne_ok (s : State) : initError s ≠ some .ok := by
  unfold initError
  repeat' split
  all_goals simp

/-- The operands that pass all of INIT's checks (40_clock R123). -/
theorem initError_none {s : State} (hcfg : s.cfg = false) (hB : s.arg0.toNat ≠ 0) (hB' : s.arg0.toNat % 1000000 = 0)
    (hP : 1 ≤ s.arg1.toNat) (hP' : s.arg1.toNat ≤ 255) (hdiv : counterMax s.params % s.arg1.toNat = 0)
    (hfit : periodCounts s - 1 ≤ counterMax s.params) : initError s = none := by
  rw [initError, if_neg (by simp [hcfg]), if_neg (by omega), if_neg (by omega), if_neg (by omega), if_neg (by omega)]

theorem exec_init_of_error {s : State} {e : ErrCode} (h : initError s = some e) : exec .init s = .next (fail e s) := by
  simp only [exec, execInit, h]

theorem exec_init_of_none {s : State} (h : initError s = none) :
    exec .init s = .next (complete 0#32 0#32 (configureClock s)) := by
  simp only [exec, execInit, h]

/-! ## Right after a successful INIT -/

/-- A successful INIT starts with CFG = 0, so PHASE is IDLE, and leaves CFG = 1, CVR = 0 and the invariant
(10_state R28, 40_clock R125). -/
theorem JustConfigured.configured {s : State} (h : JustConfigured s) : Inv s ∧ s.cfg = true ∧ s.cvr = 0#32 := by
  obtain ⟨s0, hs0, hexec, herr⟩ := h
  rcases exec_init_cases hexec with ⟨e, he, rfl⟩ | ⟨hok, rfl⟩
  · obtain rfl : e = .ok := herr
    exact absurd he (initError_ne_ok s0)
  · obtain ⟨-, -, -, -, -, -, hidle⟩ := hs0.unconfigured (cfg_of_initError_none hok)
    exact ⟨inv_exec hs0 hidle hexec, rfl, rfl⟩

/-- At INIT a reading is the seed in its unit (40_clock R125, R133). -/
theorem JustConfigured.nowVal_eq {s : State} (h : JustConfigured s) (u : TimeUnit) :
    nowVal u s = s.elapsed * BitVec.ofNat 32 (unitsPerMs u) := by
  obtain ⟨hs, hcfg, hz⟩ := h.configured
  exact nowVal_of_cvr_zero ((hs.configured hcfg).unitCounts_pos u) hz

/-- After INIT a reading is the seed in its unit and the units that a counter from 0 has passed (40_clock R133). -/
theorem JustConfigured.nowVal_counts {s : State} (h : JustConfigured s) (u : TimeUnit) (n : Nat) :
    nowVal u (counts n s)
      = s.elapsed * BitVec.ofNat 32 (unitsPerMs u) + BitVec.ofNat 32 (unitsPassed (unitCounts u s) 0 n) := by
  obtain ⟨hs, hcfg, hz⟩ := h.configured
  rw [Machine.nowVal_counts u hs hcfg, h.nowVal_eq, hz, BitVec.toNat_zero]

/-- Until it wraps, a reading after INIT is the exact number (40_clock R134). -/
theorem JustConfigured.nowVal_counts_toNat {s : State} (h : JustConfigured s) (u : TimeUnit) (n : Nat)
    (hwrap : s.elapsed.toNat * unitsPerMs u + unitsPassed (unitCounts u s) 0 n < 2 ^ 32) :
    (nowVal u (counts n s)).toNat = s.elapsed.toNat * unitsPerMs u + unitsPassed (unitCounts u s) 0 n := by
  simp only [h.nowVal_counts, BitVec.toNat_add, BitVec.toNat_mul, BitVec.toNat_ofNat, Nat.mul_mod_mod, Nat.mod_add_mod,
    Nat.add_mod_mod]
  exact Nat.mod_eq_of_lt hwrap

/-! ## The commands that read the clock or use the codec -/

theorem whenConfigured_of_cfg (body : State → State) {s : State} (h : s.cfg = true) :
    whenConfigured body s = body s :=
  if_pos h

theorem whenConfigured_of_not_cfg (body : State → State) {s : State} (h : s.cfg = false) :
    whenConfigured body s = fail .notConfigured s :=
  if_neg (by simp [h])

theorem quotient_of_ne_zero (a : Word) {b : Word} (h : b ≠ 0#32) : quotient a b = a / b :=
  if_neg h

/-- With a tick period of one millisecond the counter stays below a millisecond, so ELAPSED is the reading
(40_clock R127). -/
theorem ClockConfigured.nowMsVal_of_tickPeriod_one {s : State} (h : ClockConfigured s) (hone : s.tickPeriod = 1#8) :
    nowMsVal s = s.elapsed := by
  have hle := h.cvr_le
  have hreload := h.reload_eq .ms
  have hbelow : s.cvr.toNat < unitCounts .ms s := by
    rw [hone, BitVec.toNat_one (by decide), unitsPerMs, Nat.one_mul] at hreload
    omega
  exact (nowVal_eq (h.unitCounts_pos .ms)).trans (by simp [Nat.div_eq_of_lt hbelow, unitsPerMs])

theorem whenConfigured_completes_or_fails (r0 r1 : State → Word) (s : State) :
    (∃ x y, whenConfigured (fun v => complete (r0 v) (r1 v) v) s = complete x y s)
      ∨ whenConfigured (fun v => complete (r0 v) (r1 v) v) s = fail .notConfigured s :=
  (whenConfigured_cases _ s).imp (fun ⟨_, e⟩ => ⟨r0 s, r1 s, e⟩) And.right

/-- NOW_MS, NOW_US, SAMPLE, ENCODE and DECODE complete, or fail with NOT_CONFIGURED (40_clock R127 to R129,
42_priority_codec R172, R173). -/
theorem exec_completes_or_fails {i : Instr} {s t : State}
    (hi : i = .nowMs ∨ i = .nowUs ∨ i = .sample ∨ i = .encode ∨ i = .decode) (h : exec i s = .next t) :
    (∃ r0 r1, t = complete r0 r1 s) ∨ t = fail .notConfigured s := by
  rcases hi with rfl | rfl | rfl | rfl | rfl <;> cases h
  · exact whenConfigured_completes_or_fails nowMsVal (fun _ => 0#32) s
  · exact whenConfigured_completes_or_fails nowUsVal (fun _ => 0#32) s
  · exact whenConfigured_completes_or_fails State.elapsed State.cvr s
  · exact .inl ⟨_, _, rfl⟩
  · exact .inl ⟨_, _, rfl⟩

end Sys2Proof.Machine
end

section
/-! Statements of 40_clock: INIT, the commands that read the clock, a COUNT event, and the clock's closed forms. -/

open Sys2Proof Sys2Proof.Machine

/-- Settles O30: the closed forms from any state, with the counter at 0. -/
theorem clockFollowsItsClosedForms : Obligations.ClockFollowsItsClosedForms := by
  intro s n h
  obtain ⟨hs, hcfg, hz⟩ := h.configured
  have hclock := hs.configured hcfg
  refine ⟨⟨hz, ?seedMs, ?seedUs⟩, fun hn => ⟨?cvr, ?elapsed, ?nowMs, ?nowUs⟩⟩
  case seedMs => exact (h.nowVal_eq .ms).trans (BitVec.mul_one _)
  case seedUs => exact (h.nowVal_eq .us).trans (BitVec.mul_comm ..)
  case cvr =>
    have hshift : n + (s.reload.toNat - 0) = n - 1 + (s.reload.toNat + 1) := by omega
    rw [cvr_counts hs hcfg, hz, BitVec.toNat_zero, hshift, Nat.add_mod_right]
  case elapsed =>
    rw [elapsed_counts hs hcfg, hz, BitVec.toNat_zero, unitsPassed_from_zero (Nat.succ_pos _) hn]
  case nowMs =>
    have hms := h.nowVal_counts .ms n
    rw [unitsPassed_from_zero (hclock.unitCounts_pos .ms) hn, BitVec.ofNat_add, ← add_assoc] at hms
    simpa [nowVal, unitsPerMs, unitCounts] using hms
  case nowUs =>
    have hus := h.nowVal_counts .us n
    rw [unitsPassed_from_zero (hclock.unitCounts_pos .us) hn, BitVec.ofNat_add, ← add_assoc, mul_comm] at hus
    exact hus

/-- Settles O31: of 1000 microseconds passed, the first passes a millisecond, and neither reading has wrapped. -/
theorem millisecondsAreMicrosecondsRoundedUp : Obligations.MillisecondsAreMicrosecondsRoundedUp := by
  intro s n h hwrap
  obtain ⟨hs, hcfg, -⟩ := h.configured
  obtain ⟨hus_pos, hunits, -⟩ := hs.configured hcfg
  have hle : unitsPassed s.usPerUnit.toNat 0 n ≤ n / s.usPerUnit.toNat + 1 :=
    unitsPassed_le hus_pos (Nat.lt_mul_div_succ n hus_pos).le
  have hround := unitsPassed_mul_from_zero hus_pos 999 n
  rw [Nat.mul_comm, ← hunits] at hround
  have hms := h.nowVal_counts_toNat .ms n
  have hus := h.nowVal_counts_toNat .us n
  simp only [unitsPerMs, unitCounts, nowVal, hround] at hms hus
  generalize unitsPassed s.usPerUnit.toNat 0 n = passed at *
  generalize n / s.usPerUnit.toNat = bound at *
  rw [hms (by omega), hus (by omega)]
  omega

/-- Settles O32: the difference is the number of units passed, which is below 2^31. -/
theorem readingsNeverStepBack : Obligations.ReadingsNeverStepBack := by
  intro s u n hs hcfg hn
  have hle := unitsPassed_le (c := s.cvr.toNat) ((hs.configured hcfg).unitCounts_pos u) hn
  rw [nowVal_counts u hs hcfg, add_sub_cancel_left, ← Int.not_lt, signed32_neg_iff, BitVec.toNat_ofNat]
  omega

/-- Settles O22: the operands pass every check, and the counter starts at 0. -/
theorem initConfiguresTheClock : Obligations.InitConfiguresTheClock := by
  intro s hwf hcfg hB hB' hP hP' hdiv hfit
  have hok := initError_none hcfg hB hB' hP hP' hdiv hfit
  obtain ⟨-, hwidth, -⟩ := (Params.wf_iff _).1 hwf
  obtain ⟨-, hus, hms, hperiod, -, hclock⟩ := configureClock_spec s hwidth hok
  have ⟨hus_pos, hunits, _, _, hreload, _⟩ := hclock
  refine ⟨_, exec_init_of_none hok, hus, hus_pos, hms, hunits, hperiod, hperiod ▸ hreload, rfl, rfl, rfl,
    ?nowMs, ?nowUs, ?tick, rfl⟩
  case nowMs => exact (nowVal_of_cvr_zero (hclock.unitCounts_pos .ms) rfl).trans (BitVec.mul_one _)
  case nowUs => exact (nowVal_of_cvr_zero (hclock.unitCounts_pos .us) rfl).trans (BitVec.mul_comm ..)
  case tick =>
    intro hidle
    exact hperiod ▸ countEvent_idle_tick (s := complete 0#32 0#32 (configureClock s)) rfl hidle rfl

/-- Settles O23: the checks before the one that applies do not. -/
theorem initFailsByTheFirstCheckThatApplies : Obligations.InitFailsByTheFirstCheckThatApplies := by
  intro s e h
  suffices he : initError s = some e from exec_init_of_error he
  unfold initError counterMax periodCounts
  rcases h with ⟨hcfg, rfl⟩ | ⟨hcfg, hB, rfl⟩ | ⟨hcfg, hB, hB', hP, rfl⟩ | ⟨hcfg, hB, hB', hP, hP', hdiv, rfl⟩
    | ⟨hcfg, hB, hB', hP, hP', hdiv, hfit, rfl⟩
  · rw [if_pos hcfg]
  all_goals rw [if_neg (by simp [hcfg])]
  · rw [if_pos hB]
  all_goals rw [if_neg (by omega)]
  · rw [if_pos hP]
  all_goals rw [if_neg (by omega)]
  · rw [if_pos hdiv]
  · rw [if_neg (by omega), if_pos hfit]

/-- Settles O24: while CFG = 1 the divisor is not 0. -/
theorem nowMsReadsThePairInOneStep : Obligations.NowMsReadsThePairInOneStep := by
  intro s
  have hexec (hcfg : s.cfg = true) : exec .nowMs s = .next (complete (nowMsVal s) 0#32 s) :=
    congrArg _ (whenConfigured_of_cfg _ hcfg)
  refine ⟨fun hcfg hms => ?divides, fun hs hcfg hone => ?period_one, fun hcfg => ?unconfigured⟩
  case divides =>
    rw [hexec hcfg, nowMsVal, quotient_of_ne_zero _ hms]
    rfl
  case period_one =>
    rw [hexec hcfg, (hs.configured hcfg).nowMsVal_of_tickPeriod_one hone]
    rfl
  case unconfigured => exact congrArg _ (whenConfigured_of_not_cfg _ hcfg)

/-- Settles O25: while CFG = 1 the divisor is not 0. -/
theorem nowUsReadsThePairInOneStep : Obligations.NowUsReadsThePairInOneStep := by
  intro s
  refine ⟨fun hcfg hus => ?divides, fun hcfg => ?unconfigured⟩
  case divides =>
    have hexec : exec .nowUs s = .next (complete (nowUsVal s) 0#32 s) := congrArg _ (whenConfigured_of_cfg _ hcfg)
    rw [hexec, nowUsVal, quotient_of_ne_zero _ hus]
    rfl
  case unconfigured => exact congrArg _ (whenConfigured_of_not_cfg _ hcfg)

/-- Settles O26: the bounds are those of the invariant. -/
theorem sampleReadsThePairInOneStep : Obligations.SampleReadsThePairInOneStep := by
  intro s
  refine ⟨fun hcfg => ?reads, fun hs hcfg => ?bounds, fun hcfg => ?unconfigured⟩
  case reads => exact congrArg _ (whenConfigured_of_cfg _ hcfg)
  case bounds =>
    obtain ⟨-, -, -, -, -, -, hmax, hcvr⟩ := hs.configured hcfg
    have hpos := Nat.two_pow_pos s.params.counterWidth
    rw [counterMax] at hmax
    omega
  case unconfigured => exact congrArg _ (whenConfigured_of_not_cfg _ hcfg)

/-- Settles O27: the three commands read one state, and while CFG = 1 no divisor is 0. -/
theorem sampleGivesTheSameReadings : Obligations.SampleGivesTheSameReadings := by
  intro s hs hcfg
  have hclock := hs.configured hcfg
  have hne {b : Word} (h : 1 ≤ b.toNat) : b ≠ 0#32 := by
    rintro rfl
    exact absurd h (by decide)
  exact ⟨_, _, _, (sampleReadsThePairInOneStep s).1 hcfg,
    (nowMsReadsThePairInOneStep s).1 hcfg (hne (hclock.unitCounts_pos .ms)),
    (nowUsReadsThePairInOneStep s).1 hcfg (hne (hclock.unitCounts_pos .us)), rfl, rfl⟩

/-- Settles O53: a completion and a failure both write RES0, RES1 and ERR only. -/
theorem readingAndCodecCommandsFrame : Obligations.ReadingAndCodecCommandsFrame := by
  intro i s t hi h
  have hframe : t = { s with res0 := t.res0, res1 := t.res1, err := t.err } := by
    rcases exec_completes_or_fails hi h with ⟨r0, r1, rfl⟩ | rfl <;> rfl
  refine ⟨hframe, fun r h0 h1 hst => ?_⟩
  rw [hframe]
  cases r
  case res0 => exact absurd rfl h0
  case res1 => exact absurd rfl h1
  case status => exact absurd rfl hst
  all_goals rfl

/-- Settles O54: INIT fails, or completes with the clock elements and CFG written besides. -/
theorem initFrame : Obligations.InitFrame := by
  intro s t h
  rcases exec_init_cases h with ⟨e, -, rfl⟩ | ⟨-, rfl⟩
  · refine ⟨rfl, rfl, rfl, rfl, rfl, rfl, fun _ => rfl, ?_⟩
    rintro r (rfl | rfl | rfl | rfl | rfl | rfl | rfl) <;> rfl
  · refine ⟨rfl, rfl, rfl, rfl, rfl, rfl, fun hne => absurd rfl hne, ?_⟩
    rintro r (rfl | rfl | rfl | rfl | rfl | rfl | rfl) <;> rfl

/-- Settles O29: the lines and the round are no part of what a COUNT reads. -/
theorem countEventWhileIdle : Obligations.CountEventWhileIdle := by
  intro s u hnext hidle
  have hstep : step s = .next (countEvent u) := by simp only [step, takeTurn, hnext, perform]
  obtain ⟨p, r, hu⟩ := nextTurn_keeps s
  rw [hnext] at hu
  obtain rfl : u = { s with program := p, round := r } := hu
  refine ⟨fun hcfg => ?unconfigured, fun hcfg hz => ?tick, fun hcfg hz => ?decrement, rfl⟩
  case unconfigured => exact hstep.trans (congrArg _ (if_neg (by simp [hcfg])))
  case tick => exact hstep.trans (congrArg _ (countEvent_idle_tick hcfg hidle hz))
  case decrement => exact hstep.trans (congrArg _ (countEvent_idle_decrement hcfg hidle hz))
end

section
/-! SUPPORT. The wait engine (41_delay R151 to R156): the issue of a delay, a COUNT that finds a wait in progress, and
how many COUNT events pass n units of a reading. -/

namespace Sys2Proof.Machine

/-! ## The issue of a delay -/

/-- A wait of 1 to 2^31 units goes on after its issue (41_delay R157). -/
theorem startWait_waits (u : TimeUnit) {n : Word} (ph : Phase) (s : State) (h : 1 ≤ n.toNat ∧ n.toNat ≤ 2 ^ 31) :
    startWait u n ph s = setWait u n ph s := by
  rw [startWait, completionCheck_eq, if_pos (.inr ((waiting_setWait u n ph s).trans (decide_eq_true h)))]

/-- A check that a delay passes completes it (41_delay R153). -/
theorem completionCheck_of_delay_passed {s : State} (hp : s.phase = .delay) (hw : waiting s = false) :
    completionCheck s = delayCompletion s := by
  simp [completionCheck_eq, hp, hw]

/-- A delay of 0 or of more than 2^31 units completes in its issue step (41_delay R157). -/
theorem startWait_delay_completes (u : TimeUnit) {n : Word} (s : State) (h : ¬(1 ≤ n.toNat ∧ n.toNat ≤ 2 ^ 31)) :
    startWait u n .delay s = delayCompletion (setWait u n .delay s) :=
  completionCheck_of_delay_passed rfl ((waiting_setWait u n .delay s).trans (decide_eq_false h))

/-- DELAY_MS and DELAY_US start a wait of ARG0 in their unit while CFG = 1 (41_delay R151, R152). -/
theorem exec_delay {i : Instr} {u : TimeUnit} {s : State} (hcfg : s.cfg = true)
    (hi : (i = .delayMs ∧ u = .ms) ∨ (i = .delayUs ∧ u = .us)) :
    exec i s = .next (startWait u s.arg0 .delay s) := by
  rcases hi with ⟨rfl, rfl⟩ | ⟨rfl, rfl⟩ <;> exact congrArg _ (whenConfigured_of_cfg _ hcfg)

theorem inv_startWait_delay (u : TimeUnit) (n : Word) {s : State} (hs : Inv s) (hcfg : s.cfg = true) :
    Inv (startWait u n .delay s) := by
  have hcore : ConfiguredCore s := ⟨hs.params, hcfg, hs.configured hcfg, hs.latches⟩
  exact inv_completionCheck (hcore.congr rfl rfl rfl rfl rfl rfl rfl rfl) (by simp)

theorem startWait_dbKey (u : TimeUnit) (n : Word) (ph : Phase) (s : State) :
    (startWait u n ph s).dbKey = s.dbKey := by
  simp [startWait]

/-! ## A COUNT that finds a wait in progress -/

/-- A COUNT event that is next is the step (00_scope R6). -/
theorem CountNext.step_eq {s u : State} (h : CountNext s u) : step s = .next (countEvent u) := by
  simp only [step, takeTurn, h, perform]

/-- The state of a next COUNT event differs in the lines and the round only. -/
theorem CountNext.eq_withLines {s u : State} (h : CountNext s u) :
    u = { s with program := u.program, round := u.round } := by
  obtain ⟨p, r, hu⟩ := nextTurn_keeps s
  obtain rfl : u = { s with program := p, round := r } := (congrArg Prod.snd h).symm.trans hu
  rfl

theorem countEvent_of_cfg {s : State} (hcfg : s.cfg = true) : countEvent s = completionCheck (advanceCounter s) :=
  if_pos hcfg

/-- The completion check is no part of the reading that a COUNT leaves. -/
theorem nowVal_countEvent_eq_advanceCounter (u : TimeUnit) {s : State} (hcfg : s.cfg = true) :
    nowVal u (countEvent s) = nowVal u (advanceCounter s) := by
  rw [countEvent_of_cfg hcfg, completionCheck_nowVal]

theorem waiting_advanceCounter (s : State) :
    waiting (advanceCounter s) = decide (signed32 (nowVal s.dUnit (advanceCounter s) - s.dTarget) < 0) := by
  rw [waiting, advanceCounter_dUnit, advanceCounter_dTarget]

/-- A COUNT whose reading is still short of the target moves the counter only (41_delay R153). -/
theorem countEvent_of_short {s : State} (hcfg : s.cfg = true)
    (h : signed32 (nowVal s.dUnit (advanceCounter s) - s.dTarget) < 0) : countEvent s = advanceCounter s := by
  rw [countEvent_of_cfg hcfg, completionCheck_eq,
    if_pos (.inr ((waiting_advanceCounter s).trans (decide_eq_true h)))]

/-- A COUNT whose reading is not short of the target completes a delay (41_delay R153, R154). -/
theorem countEvent_of_delay_passed {s : State} (hcfg : s.cfg = true) (hp : s.phase = .delay)
    (h : 0 ≤ signed32 (nowVal s.dUnit (advanceCounter s) - s.dTarget)) :
    countEvent s = delayCompletion (advanceCounter s) := by
  rw [countEvent_of_cfg hcfg, completionCheck_of_delay_passed (by simpa using hp)
    ((waiting_advanceCounter s).trans (decide_eq_false (Int.not_lt.2 h)))]

/-! ## A row of COUNT events, from its last one -/

theorem counts_succ (n : Nat) (s : State) : counts (n + 1) s = countEvent (counts n s) := by
  induction n generalizing s with
  | zero => rfl
  | succ n ih => exact ih (countEvent s)

theorem inv_counts {s : State} (hs : Inv s) (n : Nat) : Inv (counts n s) := by
  induction n with
  | zero => exact hs
  | succ n ih => exact counts_succ n s ▸ inv_countEvent ih

theorem configuration_counts (n : Nat) (s : State) : configuration (counts n s) = configuration s := by
  induction n with
  | zero => rfl
  | succ n ih => rw [counts_succ, configuration_countEvent, ih]

theorem cfg_counts (n : Nat) (s : State) : (counts n s).cfg = s.cfg :=
  congrArg Prod.fst (configuration_counts n s)

theorem unitCounts_counts (u : TimeUnit) (n : Nat) (s : State) : unitCounts u (counts n s) = unitCounts u s := by
  induction n with
  | zero => rfl
  | succ n ih => rw [counts_succ, unitCounts_countEvent, ih]

/-! ## How many COUNT events pass n units -/

theorem unitsPassed_mono (U c : Nat) {j k : Nat} (h : j ≤ k) : unitsPassed U c j ≤ unitsPassed U c k :=
  Nat.div_le_div_right (Nat.add_le_add_right h _)

/-- The number of steps that count down from c and pass n units: c % U lead to the first unit, which the next one
passes, and every U-th passes another (41_delay R156). -/
def countsToPass (U c n : Nat) : Nat := U * n - (U - 1 - c % U)

/-- Fewer steps pass fewer units. -/
theorem lt_countsToPass_iff {U : Nat} (hU : 1 ≤ U) (c n j : Nat) :
    j < countsToPass U c n ↔ unitsPassed U c j < n := by
  rw [unitsPassed, Nat.div_lt_iff_lt_mul hU, countsToPass, Nat.mul_comm n]
  omega

theorem unitsPassed_countsToPass {U n : Nat} (hU : 1 ≤ U) (hn : 1 ≤ n) (c : Nat) :
    unitsPassed U c (countsToPass U c n) = n := by
  have hle : U ≤ U * n := Nat.le_mul_of_pos_right U hn
  rw [unitsPassed, countsToPass, Nat.sub_add_cancel (by omega), Nat.mul_div_cancel_left n hU]

theorem countsToPass_le (U c n : Nat) : countsToPass U c n ≤ U * n := Nat.sub_le ..

theorem le_countsToPass {U n : Nat} (hU : 1 ≤ U) (hn : 1 ≤ n) (c : Nat) :
    U * (n - 1) + 1 ≤ countsToPass U c n := by
  have hle : U ≤ U * n := Nat.le_mul_of_pos_right U hn
  rw [countsToPass, Nat.mul_sub_one]
  omega

theorem countsToPass_from_zero {U n : Nat} (hU : 1 ≤ U) (hn : 1 ≤ n) :
    countsToPass U 0 n = U * (n - 1) + 1 := by
  have hle : U ≤ U * n := Nat.le_mul_of_pos_right U hn
  rw [countsToPass, Nat.zero_mod, Nat.mul_sub_one]
  omega

/-- Counting down from R the remainders are those of counting up, in reverse, if U divides R + 1. -/
theorem sub_mod_of_dvd_succ {U R x : Nat} (hU : 1 ≤ U) (hR : U ∣ R + 1) (hx : x ≤ R) :
    (R - x) % U = U - (x % U + 1) := by
  refine (Nat.mod_eq_sub_iff (Nat.succ_pos _) (Nat.mod_lt x hU)).2 ?_
  have hsplit : U * (x / U) + (R - x + (x % U + 1)) = R + 1 := by
    have := Nat.div_add_mod x U
    omega
  exact (Nat.dvd_add_right (Nat.dvd_mul_right U (x / U))).1 (hsplit ▸ hR)

/-- What is left of a unit t COUNT events after INIT (40_clock R133). -/
theorem JustConfigured.cvr_counts_mod {s : State} (h : JustConfigured s) (u : TimeUnit) {t : Nat} (ht : 1 ≤ t) :
    (counts t s).cvr.toNat % unitCounts u s = unitCounts u s - ((t - 1) % unitCounts u s + 1) := by
  obtain ⟨hs, hcfg, hz⟩ := h.configured
  have hclock := hs.configured hcfg
  have hshift : t + (s.reload.toNat - 0) = t - 1 + (s.reload.toNat + 1) := by omega
  rw [cvr_counts hs hcfg, hz, BitVec.toNat_zero, hshift, Nat.add_mod_right,
    sub_mod_of_dvd_succ (hclock.unitCounts_pos u) (hclock.unit_dvd_period u)
      (Nat.le_of_lt_succ (Nat.mod_lt _ (Nat.succ_pos _))),
    Nat.mod_mod_of_dvd _ (hclock.unit_dvd_period u)]

/-- The formula of 41_delay R156 for n units from t COUNT events after INIT. -/
theorem JustConfigured.countsToPass_eq {s : State} (h : JustConfigured s) (u : TimeUnit) (t : Nat) {n : Nat}
    (hn : 1 ≤ n) :
    countsToPass (unitCounts u s) (counts t s).cvr.toNat n
      = if t = 0 then unitCounts u s * (n - 1) + 1 else unitCounts u s * n - (t - 1) % unitCounts u s := by
  obtain ⟨hs, hcfg, hz⟩ := h.configured
  have hU := (hs.configured hcfg).unitCounts_pos u
  by_cases ht : t = 0
  · subst ht
    rw [if_pos rfl, counts, hz, BitVec.toNat_zero, countsToPass_from_zero hU hn]
  · have hlt := Nat.mod_lt (t - 1) hU
    rw [if_neg ht, countsToPass, h.cvr_counts_mod u (Nat.one_le_iff_ne_zero.2 ht)]
    congr 1
    omega

/-! ## A wait over a row of COUNT events -/

/-- The wait in progress: PHASE and the hidden wait state (10_state R34, R35). -/
def waitInProgress (s : State) : Phase × TimeUnit × Word × Word × Word :=
  (s.phase, s.dUnit, s.dStart, s.dTarget, s.dbKey)

theorem waitInProgress_advanceCounter (s : State) : waitInProgress (advanceCounter s) = waitInProgress s := by
  simp [waitInProgress]

theorem waitInProgress_eq_iff (s t : State) :
    waitInProgress t = waitInProgress s ↔ t.phase = s.phase ∧ t.dUnit = s.dUnit ∧ t.dStart = s.dStart
      ∧ t.dTarget = s.dTarget ∧ t.dbKey = s.dbKey := by
  simp only [waitInProgress, Prod.mk.injEq]

/-- Fewer than n ≤ 2^31 units on, the reading is short of the target n units on, across a wrap as well
(41_delay R155). -/
theorem signed32_short {n : Word} (hn : n.toNat ≤ 2 ^ 31) {p : Nat} (hp : p < n.toNat) (x : Word) :
    signed32 (x + BitVec.ofNat 32 p - (x + n)) < 0 := by
  rw [add_sub_add_left_eq_sub, signed32_neg_iff, BitVec.toNat_sub, BitVec.toNat_ofNat]
  omega

section
variable {w : State} {n : Word} (hs : Inv w) (hcfg : w.cfg = true) (htarget : w.dTarget = nowVal w.dUnit w + n)
include hs hcfg htarget

/-- A wait for n ≤ 2^31 units goes on while fewer units have passed (41_delay R155). -/
theorem counts_waits (hn : n.toNat ≤ 2 ^ 31) {j : Nat}
    (hj : unitsPassed (unitCounts w.dUnit w) w.cvr.toNat j < n.toNat) :
    waitInProgress (counts j w) = waitInProgress w := by
  induction j with
  | zero => rfl
  | succ j ih =>
    have hkept := ih (Nat.lt_of_le_of_lt (unitsPassed_mono _ _ (Nat.le_succ j)) hj)
    obtain ⟨-, hunit, -, htgt, -⟩ := (waitInProgress_eq_iff ..).1 hkept
    have hcfg' := (cfg_counts j w).trans hcfg
    have hshort : signed32 (nowVal w.dUnit (advanceCounter (counts j w)) - w.dTarget) < 0 := by
      rw [← nowVal_countEvent_eq_advanceCounter _ hcfg', ← counts_succ, nowVal_counts _ hs hcfg, htarget]
      exact signed32_short hn hj _
    rw [counts_succ, countEvent_of_short hcfg' (by rwa [hunit, htgt]), waitInProgress_advanceCounter, hkept]

/-- A delay completes at the COUNT that passes the n-th unit (41_delay R154, R156). -/
theorem counts_completes_delay (hn : n.toNat ≤ 2 ^ 31) (hphase : w.phase = .delay) {j : Nat}
    (hbefore : unitsPassed (unitCounts w.dUnit w) w.cvr.toNat j < n.toNat)
    (hpasses : unitsPassed (unitCounts w.dUnit w) w.cvr.toNat (j + 1) = n.toNat) :
    (counts (j + 1) w).phase = .idle ∧ (counts (j + 1) w).res0 = w.dStart
      ∧ (counts (j + 1) w).res1 = w.dTarget := by
  obtain ⟨hph, hunit, hstart, htgt, -⟩ :=
    (waitInProgress_eq_iff ..).1 (counts_waits hs hcfg htarget hn hbefore)
  have hcfg' := (cfg_counts j w).trans hcfg
  have hreading : nowVal w.dUnit (advanceCounter (counts j w)) = w.dTarget := by
    rw [← nowVal_countEvent_eq_advanceCounter _ hcfg', ← counts_succ, nowVal_counts _ hs hcfg, hpasses, htarget,
      BitVec.ofNat_toNat, BitVec.setWidth_eq]
  have hdone : counts (j + 1) w = delayCompletion (advanceCounter (counts j w)) := by
    rw [counts_succ]
    refine countEvent_of_delay_passed hcfg' (hph.trans hphase) ?_
    rw [hunit, htgt, hreading, sub_self]
    decide
  rw [hdone]
  exact ⟨rfl, (advanceCounter_dStart _).trans hstart, by simpa [delayCompletion, hunit] using hreading⟩

end

/-- From any configured state: a delay of n units waits until its COUNT events have passed n units, and completes there
(41_delay R156). -/
theorem startWait_delay_counts {s : State} (hs : Inv s) (hcfg : s.cfg = true) (u : TimeUnit) {n : Word}
    (h1 : 1 ≤ n.toNat) (h2 : n.toNat ≤ 2 ^ 31) :
    let w := startWait u n .delay s
    let c := countsToPass (unitCounts u s) s.cvr.toNat n.toNat
    (∀ j, j < c → (counts j w).phase = .delay)
      ∧ (counts c w).phase = .idle ∧ (counts c w).res0 = nowVal u s ∧ (counts c w).res1 = nowVal u s + n := by
  intro w c
  have hU := (hs.configured hcfg).unitCounts_pos u
  have hinv : Inv w := inv_startWait_delay u n hs hcfg
  have hw : w = setWait u n .delay s := startWait_waits u .delay s ⟨h1, h2⟩
  clear_value w
  subst hw
  have htarget : nowVal u s + n = nowVal u (setWait u n .delay s) + n :=
    congrArg (· + n) (nowVal_congr u rfl rfl rfl rfl)
  have hunit : unitCounts u (setWait u n .delay s) = unitCounts u s := by cases u <;> rfl
  have hwaits {j : Nat} (hj : j < c) :
      unitsPassed (unitCounts u (setWait u n .delay s)) s.cvr.toNat j < n.toNat :=
    hunit ▸ (lt_countsToPass_iff hU _ _ _).1 hj
  obtain ⟨j, hj⟩ : ∃ j, c = j + 1 := Nat.exists_eq_succ_of_ne_zero (by
    have := le_countsToPass hU h1 s.cvr.toNat
    omega)
  refine ⟨fun i hi => congrArg Prod.fst (counts_waits hinv hcfg htarget h2 (hwaits hi)), ?_⟩
  rw [hj]
  refine counts_completes_delay hinv hcfg htarget h2 rfl (hwaits (by omega)) ?_
  rw [← hj, setWait_dUnit, hunit]
  exact unitsPassed_countsToPass hU h1 _

/-! ## The readings, outside COUNT and RESET -/

/-- While CFG = 1 no command changes a reading: INIT fails with ALREADY_CONFIGURED (40_clock R120, R123). -/
theorem exec_nowVal {i : Instr} {s t : State} (u : TimeUnit) (hcfg : s.cfg = true) (h : exec i s = .next t) :
    nowVal u t = nowVal u s := by
  by_cases hi : i = .init
  · subst hi
    rcases exec_init_cases h with ⟨e, -, rfl⟩ | ⟨hok, -⟩
    · exact nowVal_congr u rfl rfl rfl rfl
    · exact absurd hcfg (by simp [cfg_of_initError_none hok])
  · obtain ⟨hel, hcvr, hus, hms, -⟩ := exec_clock_frame hi h
    exact nowVal_congr u hel hcvr hms hus

end Sys2Proof.Machine
end

section
/-! Statements of 41_delay: the issue of a delay, the COUNT that completes it, how long it takes, and what the waiting
commands and the steps between COUNT events leave alone. -/

open Sys2Proof Sys2Proof.Machine

/-- Settles O40: the delay waits while fewer than n units have passed, and c is the number of COUNT events that pass
n. -/
theorem delayCompletesAfterExactlyCCounts : Obligations.DelayCompletesAfterExactlyCCounts := by
  intro s w t0 c n i u h h1 h2 hi hexec hc
  obtain ⟨hs, hcfg, -⟩ := h.configured
  have hU := (hs.configured hcfg).unitCounts_pos u
  have hcfg0 : (counts t0 s).cfg = true := (cfg_counts t0 s).trans hcfg
  have hs0 : Inv { counts t0 s with arg0 := n } :=
    inv_congr (inv_counts hs t0) rfl rfl rfl rfl rfl rfl rfl rfl rfl rfl rfl rfl rfl rfl
  have hunit : unitCounts u { counts t0 s with arg0 := n } = unitCounts u s :=
    Eq.trans (by cases u <;> rfl) (unitCounts_counts u t0 s)
  have hread : nowVal u { counts t0 s with arg0 := n } = nowVal u (counts t0 s) := nowVal_congr u rfl rfl rfl rfl
  rw [exec_delay (by exact hcfg0) hi, Host.Outcome.next.injEq] at hexec
  subst hexec
  rw [← h.countsToPass_eq u t0 h1] at hc
  subst hc
  have hdelay := startWait_delay_counts hs0 hcfg0 u h1 h2
  rw [hunit, hread] at hdelay
  obtain ⟨hwaits, hidle, hres0, hres1⟩ := hdelay
  exact ⟨hwaits, hidle, hres0, hres1, le_countsToPass hU h1 _, countsToPass_le ..⟩

/-- Settles O35: while CFG = 1 only a COUNT or RESET changes a clock element. -/
theorem readingsChangeOnlyInCountSteps : Obligations.ReadingsChangeOnlyInCountSteps := by
  intro s t u h hcfg hcount hreset
  cases step_event h with
  | access a0 a1 a2 p r l h | badWord e p r hidle h | pin k level p r hn h =>
    subst h
    exact nowVal_congr u rfl rfl rfl rfl
  | command i p r hn hidle h => exact (exec_nowVal u (by exact hcfg) h).trans (nowVal_congr u rfl rfl rfl rfl)
  | count p r hn h => exact absurd hn hcount
  | reset p r hn h => exact absurd hn hreset

/-- Settles O38: the check at the issue passes exactly for n = 0 and n above 2^31. -/
theorem delayIssueWaitsOrCompletes : Obligations.DelayIssueWaitsOrCompletes := by
  intro s i u hcfg hi
  rw [exec_delay hcfg hi]
  refine congrArg _ ?_
  split
  case isTrue hn =>
    have hread : nowVal u (setWait u s.arg0 .delay s) = nowVal u s := nowVal_congr u rfl rfl rfl rfl
    rw [startWait_delay_completes u s (by omega), delayCompletion, setWait_dUnit, hread]
    rfl
  case isFalse hn => exact startWait_waits u .delay s (by omega)

/-- Settles O39: c is the state that the counter's step leaves, and the check reads its clock. -/
theorem delayCompletesAtTheFirstPassingCount : Obligations.DelayCompletesAtTheFirstPassingCount := by
  intro s u hnext hcfg hphase
  have hu := hnext.eq_withLines
  have hcfg' : u.cfg = true := hu ▸ hcfg
  have hphase' : u.phase = .delay := hu ▸ hphase
  have hunit : u.dUnit = s.dUnit := hu ▸ rfl
  have htarget : u.dTarget = s.dTarget := hu ▸ rfl
  have hstart : u.dStart = s.dStart := hu ▸ rfl
  refine ⟨advanceCounter u, ?counter, fun hshort => ?waits, fun hpassed => ?completes⟩
  case counter =>
    rw [hu, advanceCounter, BitVec.ofNat_toNat]
    rfl
  case waits =>
    rw [hnext.step_eq, countEvent_of_short hcfg' (by rwa [hunit, htarget])]
  case completes =>
    rw [hnext.step_eq, countEvent_of_delay_passed hcfg' hphase' (by rwa [hunit, htarget]), delayCompletion,
      advanceCounter_dStart, advanceCounter_dUnit, hunit, hstart]

/-- Settles O55: none of the four is INIT, so the clock stays; no command writes the operands or the pins; and a delay
is no KEY_READ. -/
theorem waitCommandsFrame : Obligations.WaitCommandsFrame := by
  intro i s t hi h
  have hinit : i ≠ .init := by
    rintro rfl
    simp at hi
  obtain ⟨hel, hcvr, hus, hms, htick, hrel, hcfg⟩ := exec_clock_frame hinit h
  obtain ⟨hpar, h0, h1, h2, hpin, -⟩ := commandsNeverWriteArgumentsOrPins i s t h
  refine ⟨fun r hr => ?reads, hcfg, fun hdelay => ⟨?latch, ?dbKey⟩⟩
  case reads =>
    rcases hr with rfl | rfl | rfl | rfl | rfl | rfl | rfl | rfl | rfl | rfl | rfl | rfl <;>
      simp only [readReg, pinsView, *]
  case latch =>
    rcases exec_latch_cases h with hl | ⟨hkey, -⟩
    · exact hl
    · rcases hdelay with rfl | rfl <;> simp at hkey
  case dbKey =>
    rcases hdelay with rfl | rfl <;> cases h <;> exact whenConfigured_keeps State.dbKey (startWait_dbKey ..) rfl
end

section
/-! The codec's widths, and the field it packs and splits, as numbers (42_priority_codec R171 to R175). -/

namespace Sys2Proof.Machine

theorem exec_encode (s : State) :
    exec .encode s = .next (complete (packField s.params s.arg0 s.arg1 s.arg2) 0#32 s) := rfl

theorem exec_decode (s : State) :
    exec .decode s = .next (complete (preemptPart s.params s.arg0 s.arg1) (subPart s.params s.arg0 s.arg1) s) := rfl

/-! ## The widths -/

/-- The two parts fill the field, for every group width (42_priority_codec R171). -/
theorem groupWidth_add_subBits (p : Params) (gw : Word) : groupWidth p gw + subBits p gw = p.prioBits :=
  Nat.add_sub_cancel' (min_le_right ..)

/-- A group width of N or more is clamped to N (42_priority_codec R171). -/
theorem groupWidth_of_prioBits_le {p : Params} {gw : Word} (h : p.prioBits ≤ gw.toNat) : groupWidth p gw = p.prioBits :=
  min_eq_right h

theorem subBits_congr {p : Params} {gw gw' : Word} (h : groupWidth p gw = groupWidth p gw') :
    subBits p gw = subBits p gw' := by
  rw [subBits, h, ← subBits]

/-- N in a word is a group width of N (00_scope R9). -/
theorem groupWidth_ofNat_prioBits {p : Params} (hN : p.prioBits ≤ 8) :
    groupWidth p (BitVec.ofNat 32 p.prioBits) = p.prioBits :=
  groupWidth_of_prioBits_le (by rw [BitVec.toNat_ofNat, Nat.mod_eq_of_lt (by omega)])

/-- The codec depends on the group width through g only (42_priority_codec R175). -/
theorem packField_congr {p : Params} {gw gw' : Word} (h : groupWidth p gw = groupWidth p gw') (preempt sub : Word) :
    packField p gw preempt sub = packField p gw' preempt sub := by
  rw [packField, h, subBits_congr h, ← packField]

theorem preemptPart_congr {p : Params} {gw gw' : Word} (h : groupWidth p gw = groupWidth p gw') (raw : Word) :
    preemptPart p gw raw = preemptPart p gw' raw := by
  rw [preemptPart, h, subBits_congr h, ← preemptPart]

theorem subPart_congr {p : Params} {gw gw' : Word} (h : groupWidth p gw = groupWidth p gw') (raw : Word) :
    subPart p gw raw = subPart p gw' raw := by
  rw [subPart, subBits_congr h, ← subPart]

/-! ## The field in numbers -/

/-- A preempt part of g bits over a sub part of m bits is below 2^(g + m). -/
theorem field_lt_two_pow (a b g m : Nat) : a % 2 ^ g * 2 ^ m + b % 2 ^ m < 2 ^ (g + m) := by
  have ha : a % 2 ^ g + 1 ≤ 2 ^ g := Nat.mod_lt _ (Nat.two_pow_pos g)
  have hb : b % 2 ^ m < 2 ^ m := Nat.mod_lt _ (Nat.two_pow_pos m)
  calc a % 2 ^ g * 2 ^ m + b % 2 ^ m < (a % 2 ^ g + 1) * 2 ^ m := by rw [Nat.add_one_mul]; omega
    _ ≤ 2 ^ g * 2 ^ m := Nat.mul_le_mul_right _ ha
    _ = 2 ^ (g + m) := (Nat.pow_add 2 g m).symm

section
variable {p : Params} (hN : p.prioBits ≤ 8) (gw : Word)
include hN

/-- The packed field is below 2^N, so it is written to RES0 without a wrap (42_priority_codec R172). -/
theorem packField_toNat (preempt sub : Word) :
    (packField p gw preempt sub).toNat
      = preempt.toNat % 2 ^ groupWidth p gw * 2 ^ subBits p gw + sub.toNat % 2 ^ subBits p gw := by
  have hsum := groupWidth_add_subBits p gw
  have hsub : sub.toNat % 2 ^ subBits p gw < 2 ^ subBits p gw := Nat.mod_lt _ (Nat.two_pow_pos _)
  have hfield := field_lt_two_pow preempt.toNat sub.toNat (groupWidth p gw) (subBits p gw)
  have hword : 2 ^ (groupWidth p gw + subBits p gw) ≤ 2 ^ 32 := Nat.pow_le_pow_right (by omega) (by omega)
  rw [packField, BitVec.toNat_or, BitVec.toNat_shiftLeft, and_mask_toNat _ (by omega), and_mask_toNat _ (by omega),
    Nat.mod_eq_of_lt (by rw [Nat.shiftLeft_eq]; omega), ← Nat.shiftLeft_add_eq_or_of_lt hsub, Nat.shiftLeft_eq]

/-- Of the N field bits, g stand above the sub part, so the mask to g bits changes nothing (42_priority_codec R173). -/
theorem preemptPart_toNat (raw : Word) :
    (preemptPart p gw raw).toNat = raw.toNat % 2 ^ p.prioBits / 2 ^ subBits p gw := by
  have hsum := groupWidth_add_subBits p gw
  have hlt : raw.toNat % 2 ^ p.prioBits / 2 ^ subBits p gw < 2 ^ groupWidth p gw := by
    rw [Nat.div_lt_iff_lt_mul (Nat.two_pow_pos _), ← Nat.pow_add, hsum]
    exact Nat.mod_lt _ (Nat.two_pow_pos _)
  rw [preemptPart, and_mask_toNat _ (by omega), BitVec.toNat_ushiftRight, and_mask_toNat _ (by omega),
    Nat.shiftRight_eq_div_pow, Nat.mod_eq_of_lt hlt]

/-- The sub part lies inside the field, so the mask to N bits changes nothing (42_priority_codec R173). -/
theorem subPart_toNat (raw : Word) : (subPart p gw raw).toNat = raw.toNat % 2 ^ subBits p gw := by
  have hsum := groupWidth_add_subBits p gw
  rw [subPart, and_mask_toNat _ (by omega), and_mask_toNat _ (by omega),
    Nat.mod_mod_of_dvd _ (Nat.pow_dvd_pow 2 (by omega))]

/-! ## Splitting a packed field -/

/-- The preempt part of a packed field is the masked preempt input (42_priority_codec R174). -/
theorem preemptPart_packField_toNat (preempt sub : Word) :
    (preemptPart p gw (packField p gw preempt sub)).toNat = preempt.toNat % 2 ^ groupWidth p gw := by
  have hsub : sub.toNat % 2 ^ subBits p gw < 2 ^ subBits p gw := Nat.mod_lt _ (Nat.two_pow_pos _)
  rw [preemptPart_toNat hN, packField_toNat hN, ← groupWidth_add_subBits p gw,
    Nat.mod_eq_of_lt (field_lt_two_pow ..), Nat.add_comm, Nat.add_mul_div_right _ _ (Nat.two_pow_pos _),
    Nat.div_eq_of_lt hsub, Nat.zero_add]

/-- The sub part of a packed field is the masked sub input (42_priority_codec R174). -/
theorem subPart_packField_toNat (preempt sub : Word) :
    (subPart p gw (packField p gw preempt sub)).toNat = sub.toNat % 2 ^ subBits p gw := by
  rw [subPart_toNat hN, packField_toNat hN, Nat.mul_add_mod_self_right, Nat.mod_mod]

end

end Sys2Proof.Machine
end

section
/-! Statements of 42_priority_codec: ENCODE, DECODE, the round trip and the clamped group width. -/

open Sys2Proof Sys2Proof.Machine

/-- Settles O42: RES0 is the packed field, whose value needs no more than N bits. -/
theorem encodePacksTheField : Obligations.EncodePacksTheField := by
  rintro s _ hwf rfl
  obtain ⟨-, -, hN, -⟩ := (Params.wf_iff _).1 hwf
  refine ⟨?next, ?bound⟩
  case next =>
    rw [exec_encode, (BitVec.toNat_eq_nat.1 (packField_toNat hN s.arg0 s.arg1 s.arg2)).2]
    rfl
  case bound =>
    have hlt := field_lt_two_pow s.arg1.toNat s.arg2.toNat (groupWidth s.params s.arg0) (subBits s.params s.arg0)
    rwa [groupWidth_add_subBits] at hlt

/-- Settles O43: RES0 and RES1 are the two parts of ARG1, each by its value. -/
theorem decodeSplitsTheField : Obligations.DecodeSplitsTheField := by
  rintro s _ hwf rfl
  obtain ⟨-, -, hN, -⟩ := (Params.wf_iff _).1 hwf
  rw [exec_decode, (BitVec.toNat_eq_nat.1 (preemptPart_toNat hN s.arg0 s.arg1)).2,
    (BitVec.toNat_eq_nat.1 (subPart_toNat hN s.arg0 s.arg1)).2]
  rfl

/-- Settles O44: DECODE splits the field that ENCODE packed, and ENCODE keeps ARG0. -/
theorem codecRoundTripGivesMaskedInputs : Obligations.CodecRoundTripGivesMaskedInputs := by
  rintro s t _ hwf rfl h
  obtain ⟨-, -, hN, -⟩ := (Params.wf_iff _).1 hwf
  cases h
  exact ⟨_, rfl, preemptPart_packField_toNat hN s.arg0 s.arg1 s.arg2, subPart_packField_toNat hN s.arg0 s.arg1 s.arg2⟩

/-- Settles O45: both group widths have the effective width N, on which alone the results depend. -/
theorem groupWidthIsClampedToN : Obligations.GroupWidthIsClampedToN := by
  rintro s gw i hwf hgw hi
  obtain ⟨-, -, hN, -⟩ := (Params.wf_iff _).1 hwf
  have hg : groupWidth s.params gw = groupWidth s.params (BitVec.ofNat 32 s.params.prioBits) :=
    (groupWidth_of_prioBits_le hgw).trans (groupWidth_ofNat_prioBits hN).symm
  rcases hi with rfl | rfl
  · exact ⟨_, _, rfl, rfl, packField_congr hg .., rfl, rfl, rfl⟩
  · exact ⟨_, _, rfl, rfl, preemptPart_congr hg _, subPart_congr hg _, rfl, rfl⟩
end

section
/-! SUPPORT. The debouncer (43_debounce R191 to R204): the bit of one key, the issue of a KEY_READ, a COUNT that finds
a debounce wait in progress, and a debounce wait over a row of COUNT events while the pins change. -/

namespace Sys2Proof.Machine

/-! ## The bit of one key -/

theorem Params.numKeys_le {p : Params} (h : p.wf = true) : p.numKeys ≤ 32 := by
  obtain ⟨-, -, -, -, hK, -⟩ := (Params.wf_iff p).1 h
  exact hK

/-- Setting a key's bit to the value it has changes nothing. -/
theorem setBankBit_of_bankBit_eq {bank : Word} {k : Nat} {b : Bool} (h1 : 1 ≤ k) (h32 : k ≤ 32)
    (h : bankBit bank k = b) : setBankBit bank k b = bank := by
  refine BitVec.eq_of_getLsbD_eq fun i _ => ?_
  change bankBit (setBankBit bank k b) (i + 1) = bankBit bank (i + 1)
  by_cases hk : i + 1 = k
  · rw [hk, bankBit_setBankBit_same bank h1 h32, h]
  · exact bankBit_setBankBit_other bank (Nat.succ_pos i) h1 hk b

theorem setLatch_of_latchOf_eq {s : State} {k : Nat} {b : Bool} (h1 : 1 ≤ k) (h32 : k ≤ 32) (h : latchOf s k = b) :
    setLatch k b s = s := by
  rw [setLatch, setBankBit_of_bankBit_eq h1 h32 h]

/-! ## The issue of a KEY_READ -/

/-- A KEY_READ of a valid key polls it while CFG = 1 (43_debounce R195). -/
theorem readKey_of_valid (cont : Bool) {s : State} (hcfg : s.cfg = true) (h1 : 1 ≤ s.arg0.toNat)
    (hK : s.arg0.toNat ≤ s.params.numKeys) : readKey cont s = pollKey cont s := by
  rw [readKey, if_pos ((validKey_iff _ _).2 ⟨h1, hK⟩), whenConfigured_of_cfg _ hcfg]

/-- A KEY_READ of a key that does not exist completes with no press (43_debounce R201). -/
theorem readKey_of_invalid (cont : Bool) {s : State} (h : s.arg0.toNat = 0 ∨ s.params.numKeys < s.arg0.toNat) :
    readKey cont s = complete 0#32 0#32 s := by
  rw [readKey, if_neg (by rw [validKey_iff]; omega)]

theorem samplePin_of_inactive {s : State} (h : active s s.arg0.toNat = false) :
    samplePin s = complete 0#32 0#32 (setLatch s.arg0.toNat false s) := by
  simp [samplePin, h]

/-- An inactive pin releases the key's latch in both modes (43_debounce R195). -/
theorem pollKey_of_inactive (cont : Bool) {s : State} (h : active s s.arg0.toNat = false) :
    pollKey cont s = complete 0#32 0#32 (setLatch s.arg0.toNat false s) := by
  cases cont
  · exact samplePin_of_inactive h
  · have hsample := samplePin_of_inactive (s := setLatch s.arg0.toNat false s) h
    simp only [setLatch, setBankBit_false_twice] at hsample
    exact hsample

/-- An active pin whose press is latched already gives no press in one-shot mode (43_debounce R195). -/
theorem pollKey_of_latched {s : State} (hact : active s s.arg0.toNat = true)
    (hlatch : latchOf s s.arg0.toNat = true) : pollKey false s = complete 0#32 0#32 s := by
  simp [pollKey, samplePin, hact, hlatch]

/-- An active pin with the latch Released after the mode's reset starts the debounce wait (43_debounce R195, R196). -/
theorem samplePin_of_released {s : State} (hact : active s s.arg0.toNat = true)
    (hlatch : latchOf s s.arg0.toNat = false) : samplePin s = startDebounce s := by
  simp [samplePin, hact, hlatch]

/-- An active pin starts the debounce wait with the key's latch Released: in one-shot mode if it is Released already,
in continuous mode always (43_debounce R195, R196, R200). -/
theorem exec_starts_debounce {i : Instr} {s : State} (hwf : s.params.wf = true) (hcfg : s.cfg = true)
    (h1 : 1 ≤ s.arg0.toNat) (hK : s.arg0.toNat ≤ s.params.numKeys) (hact : active s s.arg0.toNat = true)
    (hi : (i = .keyRead ∧ latchOf s s.arg0.toNat = false) ∨ i = .keyReadC) :
    exec i s = .next (startDebounce (setLatch s.arg0.toNat false s)) := by
  have h32 := hK.trans (Params.numKeys_le hwf)
  have hstart : samplePin (setLatch s.arg0.toNat false s) = startDebounce (setLatch s.arg0.toNat false s) :=
    samplePin_of_released hact (bankBit_setBankBit_same s.latch h1 h32 false)
  rcases hi with ⟨rfl, hlatch⟩ | rfl
  · rw [setLatch_of_latchOf_eq h1 h32 hlatch] at hstart ⊢
    exact congrArg _ ((readKey_of_valid false hcfg h1 hK).trans hstart)
  · exact congrArg _ ((readKey_of_valid true hcfg h1 hK).trans hstart)

/-! ## A COUNT that finds a debounce wait in progress -/

/-- A block with CFG = 0 has no wait in progress (10_state R28). -/
theorem Inv.cfg_of_busy {s : State} (hs : Inv s) (h : s.phase ≠ .idle) : s.cfg = true := by
  by_contra hcfg
  obtain ⟨-, -, -, -, -, -, hidle⟩ := hs.unconfigured (by simpa using hcfg)
  exact h hidle

/-- A debounce wait is the ten milliseconds of a valid key whose latch is Released, while CFG = 1 (10_state R35,
43_debounce R196). -/
theorem Inv.debounce {s : State} (hs : Inv s) (h : s.phase = .debounce) :
    s.cfg = true ∧ s.dUnit = .ms ∧ s.dTarget = s.dStart + Config.debounceMs
      ∧ (1 ≤ s.dbKey.toNat ∧ s.dbKey.toNat ≤ s.params.numKeys) ∧ latchOf s s.dbKey.toNat = false := by
  have hwait := hs.pending
  simp only [WaitPending, h] at hwait
  obtain ⟨-, hunit, htarget, hkey, hlatch⟩ := hwait
  exact ⟨hs.cfg_of_busy (by simp [h]), hunit, htarget, (validKey_iff _ _).1 hkey, hlatch⟩

/-- A COUNT whose reading is not short of the target takes the second sample (43_debounce R197). -/
theorem countEvent_of_debounce_passed {s : State} (hcfg : s.cfg = true) (hp : s.phase = .debounce)
    (h : 0 ≤ signed32 (nowVal s.dUnit (advanceCounter s) - s.dTarget)) :
    countEvent s = debounceCompletion (advanceCounter s) := by
  have hw : waiting (advanceCounter s) = false := (waiting_advanceCounter s).trans (decide_eq_false (Int.not_lt.2 h))
  rw [countEvent_of_cfg hcfg, completionCheck_eq]
  simp [hp, hw]

@[simp] theorem debounceCompletion_phase (s : State) : (debounceCompletion s).phase = .idle := by
  unfold debounceCompletion
  split <;> rfl

theorem debounceCompletion_of_active {s : State} {k : Word} (hk : s.dbKey = k) (h : active s k.toNat = true) :
    debounceCompletion s = { setLatch k.toNat true s with res0 := 1#32, res1 := k, phase := .idle } := by
  subst hk
  exact if_pos h

theorem debounceCompletion_of_inactive {s : State} {k : Word} (hk : s.dbKey = k) (h : active s k.toNat = false) :
    debounceCompletion s = { s with res0 := 0#32, res1 := 0#32, phase := .idle } := by
  subst hk
  exact if_neg (by simp [h])

/-- The level of the pin at its active level or not decides the report, and the press of a latch that is Released
(43_debounce R197, R198). -/
theorem debounceCompletion_decides {s : State} {k : Word} {p : Params} (hk : s.dbKey = k) (hp : s.params = p)
    (h1 : 1 ≤ k.toNat) (h32 : k.toNat ≤ 32) (hlatch : latchOf s k.toNat = false) :
    (debounceCompletion s).phase = .idle
      ∧ (pinOf s k.toNat = bankBit p.activeLevel k.toNat →
        (debounceCompletion s).res0 = 1#32 ∧ (debounceCompletion s).res1 = k
          ∧ latchOf (debounceCompletion s) k.toNat = true)
      ∧ (pinOf s k.toNat ≠ bankBit p.activeLevel k.toNat →
        (debounceCompletion s).res0 = 0#32 ∧ (debounceCompletion s).res1 = 0#32
          ∧ latchOf (debounceCompletion s) k.toNat = false) := by
  subst hp
  refine ⟨debounceCompletion_phase s, fun hpress => ?press, fun hpress => ?noPress⟩
  case press =>
    rw [debounceCompletion_of_active hk (beq_iff_eq.2 hpress)]
    exact ⟨rfl, rfl, bankBit_setBankBit_same s.latch h1 h32 true⟩
  case noPress =>
    rw [debounceCompletion_of_inactive hk (beq_eq_false_iff_ne.2 hpress)]
    exact ⟨rfl, rfl, hlatch⟩

theorem active_advanceCounter (s : State) (k : Nat) : active (advanceCounter s) k = active s k := by
  simp [active, pinOf]

/-! ## The pins during a row of COUNT events -/

/-- A completion check that leaves PHASE busy did not pass (41_delay R153). -/
theorem waiting_of_completionCheck_busy {s : State} (h : (completionCheck s).phase ≠ .idle) : waiting s = true := by
  rcases completionCheck_cases s with ⟨he, hw⟩ | ⟨he, -, -⟩ | ⟨he, -, -⟩ <;> rw [he] at h
  · exact hw.resolve_left h
  · exact absurd rfl h
  · exact absurd (debounceCompletion_phase s) h

theorem advanceCounter_withPins (s : State) (pins : Word) :
    advanceCounter { s with pinLevel := pins } = { advanceCounter s with pinLevel := pins } := by
  unfold advanceCounter
  split <;> rfl

/-- A COUNT that leaves PHASE busy does not sample the pins. -/
theorem countEvent_withPins {s : State} (h : (countEvent s).phase ≠ .idle) (pins : Word) :
    countEvent { s with pinLevel := pins } = { countEvent s with pinLevel := pins } := by
  rcases countEvent_cases s with ⟨hcfg, he⟩ | ⟨hcfg, he⟩ <;> rw [he] at h ⊢
  · exact if_neg (by simp [hcfg])
  · have hw : waiting { advanceCounter s with pinLevel := pins } = true :=
      (waiting_congr (s := advanceCounter s) rfl rfl rfl rfl rfl rfl).trans (waiting_of_completionCheck_busy h)
    rw [completionCheck_eq_self h, countEvent_of_cfg (by exact hcfg), advanceCounter_withPins, completionCheck_eq,
      if_pos (.inr hw)]

theorem counts_withPins {s : State} {n : Nat} (h : ∀ m ≤ n, (counts m s).phase ≠ .idle) (pins : Word) :
    counts n { s with pinLevel := pins } = { counts n s with pinLevel := pins } := by
  induction n with
  | zero => rfl
  | succ n ih =>
    rw [counts_succ, ih fun m hm => h m (by omega), counts_succ,
      countEvent_withPins (counts_succ n s ▸ h (n + 1) (Nat.le_refl _))]

theorem counts_add (m n : Nat) (s : State) : counts (m + n) s = counts n (counts m s) := by
  induction n with
  | zero => rfl
  | succ n ih => rw [← Nat.add_assoc, counts_succ, counts_succ, ih]

theorem params_counts (n : Nat) (s : State) : (counts n s).params = s.params := by
  induction n with
  | zero => rfl
  | succ n ih => rw [counts_succ, countEvent_params, ih]

/-! ## COUNT events while PHASE = IDLE -/

/-- What the issue of a KEY_READ reads of the keys (43_debounce R195), with PHASE. -/
def keyState (s : State) : Phase × Params × Word × Word := (s.phase, s.params, s.pinLevel, s.latch)

theorem keyState_countEvent {s : State} (h : s.phase = .idle) : keyState (countEvent s) = keyState s := by
  rcases countEvent_cases s with ⟨-, he⟩ | ⟨-, he⟩
  · rw [he]
  · have hidle : (advanceCounter s).phase = .idle := (advanceCounter_phase s).trans h
    rw [he, completionCheck_eq, if_pos (.inl hidle)]
    simp [keyState]

theorem keyState_counts {s : State} (h : s.phase = .idle) (n : Nat) : keyState (counts n s) = keyState s := by
  induction n with
  | zero => rfl
  | succ n ih =>
    have hidle : (counts n s).phase = .idle := (congrArg Prod.fst ih).trans h
    rw [counts_succ, keyState_countEvent hidle, ih]

/-- INIT succeeds only with CFG = 0, so that PHASE is IDLE, and keeps it (10_state R28, 40_clock R123). -/
theorem JustConfigured.idle {s : State} (h : JustConfigured s) : s.phase = .idle := by
  obtain ⟨s0, hs0, hexec, herr⟩ := h
  rcases exec_init_cases hexec with ⟨e, he, rfl⟩ | ⟨hok, rfl⟩
  · obtain rfl : e = .ok := herr
    exact absurd he (initError_ne_ok s0)
  · obtain ⟨-, -, -, -, -, -, hidle⟩ := hs0.unconfigured (cfg_of_initError_none hok)
    exact hidle

/-! ## A debounce wait over a row of COUNT events -/

/-- The COUNT events that a debounce wait takes from its issue: those that pass 10 milliseconds (43_debounce R204). -/
def debounceCounts (w : State) : Nat := countsToPass (unitCounts .ms w) w.cvr.toNat Config.debounceMs.toNat

/-- What the issue of a KEY_READ that waits leaves of the wait (43_debounce R196). -/
theorem startDebounce_wait (s : State) :
    (startDebounce s).phase = .debounce ∧ (startDebounce s).dbKey = s.arg0 ∧ (startDebounce s).params = s.params
      ∧ (startDebounce s).dStart = nowVal .ms (startDebounce s)
      ∧ debounceCounts (startDebounce s) = countsToPass (unitCounts .ms s) s.cvr.toNat 10 := by
  rw [startDebounce_eq]
  exact ⟨rfl, rfl, rfl, nowVal_congr .ms rfl rfl rfl rfl, rfl⟩

section
variable {w : State} (hs : Inv w) (hphase : w.phase = .debounce) (hfresh : w.dStart = nowVal .ms w)
include hs hphase hfresh

/-- A debounce wait goes on until its last COUNT event, with the key's latch Released (43_debounce R204). -/
theorem counts_debounce_waits {m : Nat} (hm : m < debounceCounts w) :
    waitInProgress (counts m w) = waitInProgress w ∧ latchOf (counts m w) w.dbKey.toNat = false := by
  obtain ⟨hcfg, hunit, htarget, -, -⟩ := hs.debounce hphase
  have hkept : waitInProgress (counts m w) = waitInProgress w := by
    refine counts_waits hs hcfg (n := Config.debounceMs) (by rw [htarget, hunit, hfresh]) (by decide) ?_
    rw [hunit]
    exact (lt_countsToPass_iff ((hs.configured hcfg).unitCounts_pos .ms) _ _ _).1 hm
  obtain ⟨hph, -, -, -, hkey⟩ := (waitInProgress_eq_iff ..).1 hkept
  obtain ⟨-, -, -, -, hlatch⟩ := (inv_counts hs m).debounce (hph.trans hphase)
  exact ⟨hkept, hkey ▸ hlatch⟩

/-- The last COUNT event of a debounce wait finds its reading at the target (43_debounce R204). -/
theorem nowVal_last_debounce_count {n : Nat} (hn : debounceCounts w = n + 1) :
    nowVal .ms (advanceCounter (counts n w)) = w.dTarget := by
  obtain ⟨hcfg, -, htarget, -, -⟩ := hs.debounce hphase
  have hpassed : unitsPassed (unitCounts .ms w) w.cvr.toNat (n + 1) = Config.debounceMs.toNat :=
    hn ▸ unitsPassed_countsToPass ((hs.configured hcfg).unitCounts_pos .ms) (by decide) _
  rw [← nowVal_countEvent_eq_advanceCounter _ ((cfg_counts n w).trans hcfg), ← counts_succ, nowVal_counts _ hs hcfg,
    hpassed, htarget, hfresh, BitVec.ofNat_toNat, BitVec.setWidth_eq]

/-- With the pins changed on the way, the last COUNT event of a debounce wait samples the pins as changed
(43_debounce R202, R204). -/
theorem counts_debounce_completes {n j : Nat} (hn : debounceCounts w = n + 1) (hj : j ≤ n) (pins : Word) :
    counts (n + 1 - j) { counts j w with pinLevel := pins }
      = debounceCompletion { advanceCounter (counts n w) with pinLevel := pins } := by
  have hwait {m : Nat} (hm : m ≤ n) :=
    (waitInProgress_eq_iff ..).1 (counts_debounce_waits hs hphase hfresh (m := m) (by omega)).1
  obtain ⟨hph, hunit, -, htarget, -⟩ := hwait (Nat.le_refl n)
  obtain ⟨hcfg, hms, -⟩ := hs.debounce hphase
  have hrow : counts (n - j) { counts j w with pinLevel := pins } = { counts n w with pinLevel := pins } := by
    rw [counts_withPins, ← counts_add, Nat.add_sub_cancel' hj]
    intro m hm
    obtain ⟨hph, -⟩ := hwait (m := j + m) (by omega)
    rw [← counts_add, hph, hphase]
    decide
  have hread : nowVal .ms (advanceCounter { counts n w with pinLevel := pins }) = w.dTarget := by
    rw [advanceCounter_withPins, ← nowVal_last_debounce_count hs hphase hfresh hn]
    exact nowVal_congr .ms rfl rfl rfl rfl
  rw [Nat.succ_sub hj, counts_succ, hrow, countEvent_of_debounce_passed, advanceCounter_withPins]
  · exact (cfg_counts n w).trans hcfg
  · exact hph.trans hphase
  · rw [hunit, hms, hread, htarget, sub_self]
    decide

/-- A debounce wait is decided at its last COUNT event, by the pins as they are then (43_debounce R198, R204). -/
theorem counts_debounce_decides {j : Nat} (hj : j < debounceCounts w) (pins : Word) :
    let t := counts (debounceCounts w - j) { counts j w with pinLevel := pins }
    let k := w.dbKey.toNat
    t.phase = .idle
      ∧ (bankBit pins k = bankBit w.params.activeLevel k →
        t.res0 = 1#32 ∧ t.res1 = w.dbKey ∧ latchOf t k = true)
      ∧ (bankBit pins k ≠ bankBit w.params.activeLevel k →
        t.res0 = 0#32 ∧ t.res1 = 0#32 ∧ latchOf t k = false) := by
  intro t k
  obtain ⟨n, hn⟩ : ∃ n, debounceCounts w = n + 1 := Nat.exists_eq_succ_of_ne_zero (Nat.ne_zero_of_lt hj)
  obtain ⟨hkept, hlatch⟩ := counts_debounce_waits hs hphase hfresh (m := n) (by omega)
  obtain ⟨-, -, -, -, hkey⟩ := (waitInProgress_eq_iff ..).1 hkept
  obtain ⟨-, -, -, ⟨h1, hK⟩, -⟩ := hs.debounce hphase
  have hlast := debounceCompletion_decides (s := { advanceCounter (counts n w) with pinLevel := pins })
    ((advanceCounter_dbKey _).trans hkey) ((advanceCounter_params _).trans (params_counts n w)) h1
    (hK.trans (Params.numKeys_le hs.params))
    ((congrArg (bankBit · k) (advanceCounter_latch _)).trans hlatch)
  rw [← counts_debounce_completes hs hphase hfresh hn (Nat.le_of_lt_succ (hn ▸ hj)), ← hn] at hlast
  exact hlast

end

end Sys2Proof.Machine
end

section
/-! Statements of 43_debounce: a pin event, the issue of a KEY_READ in each of its cases, the COUNT that takes the second
sample, and how long a debounce wait takes. -/

open Sys2Proof Sys2Proof.Machine

/-- Settles O18: the line is never held, and the key has a pin. -/
theorem pinEventChangesOnePinOnly : Obligations.PinEventChangesOnePinOnly := by
  intro s k level rest hwf hp h1 hK
  refine ⟨setPin k level { s with program := rest }, ?step, ?same, fun j hj _ hne => ?other, rfl⟩
  case step => exact (step_line hp rfl).trans (perform_pin_of_key (s := { s with program := rest }) h1 hK level)
  case same => exact bankBit_setBankBit_same s.pinLevel h1 (hK.trans (Params.numKeys_le hwf)) level
  case other => exact bankBit_setBankBit_other s.pinLevel hj h1 hne level

/-- Settles O46: the key check comes before CFG and the mode. -/
theorem invalidKeyGivesNoPress : Obligations.InvalidKeyGivesNoPress := by
  rintro s i (rfl | rfl) h
  · exact congrArg _ (readKey_of_invalid false h)
  · exact congrArg _ (readKey_of_invalid true h)

/-- Settles O47: an inactive pin writes the latch of its own key only, a latched press nothing. -/
theorem keyReadWithoutWaitGivesNoPress : Obligations.KeyReadWithoutWaitGivesNoPress := by
  intro s i hwf hcfg h1 hK hi
  have h32 := hK.trans (Params.numKeys_le hwf)
  rcases hi with ⟨hi, hact⟩ | ⟨rfl, hact, hlatch⟩
  · refine ⟨complete 0#32 0#32 (setLatch s.arg0.toNat false s), ?exec, ?own, fun j hj _ hne => ?other, rfl⟩
    case exec =>
      have hread (cont : Bool) := (readKey_of_valid cont hcfg h1 hK).trans (pollKey_of_inactive cont hact)
      rcases hi with rfl | rfl
      · exact congrArg _ (hread false)
      · exact congrArg _ (hread true)
    case own => exact (bankBit_setBankBit_same s.latch h1 h32 false).trans hact.symm
    case other => exact bankBit_setBankBit_other s.latch hj h1 hne false
  · have hread := (readKey_of_valid false hcfg h1 hK).trans (pollKey_of_latched hact hlatch)
    exact ⟨complete 0#32 0#32 s, congrArg _ hread, hlatch.trans hact.symm, fun _ _ _ _ => rfl, rfl⟩

/-- Settles O48: in both modes the wait starts with the key's latch Released. -/
theorem keyReadStartsTheDebounceWait : Obligations.KeyReadStartsTheDebounceWait := by
  intro s i hwf hcfg h1 hK hact hi
  refine ⟨_, exec_starts_debounce hwf hcfg h1 hK hact hi, ?_⟩
  rw [startDebounce_eq]
  refine ⟨?own, fun j hj _ hne => ?other, rfl⟩
  case own => exact bankBit_setBankBit_same s.latch h1 (hK.trans (Params.numKeys_le hwf)) false
  case other => exact bankBit_setBankBit_other s.latch hj h1 hne false

/-- Settles O49: c is the state that the counter's step leaves, whose clock the check reads and whose pins are those
before it. -/
theorem debounceCompletesBySecondSample : Obligations.DebounceCompletesBySecondSample := by
  intro s u hs hnext hphase
  obtain ⟨hcfg, hunit, -, ⟨h1, hK⟩, -⟩ := hs.debounce hphase
  have h32 := hK.trans (Params.numKeys_le hs.params)
  have hu := hnext.eq_withLines
  have hcfg' : u.cfg = true := hu ▸ hcfg
  have hphase' : u.phase = .debounce := hu ▸ hphase
  have hunit' : u.dUnit = .ms := hu ▸ hunit
  have htarget : u.dTarget = s.dTarget := hu ▸ rfl
  have hkey : (advanceCounter u).dbKey = s.dbKey := (advanceCounter_dbKey u).trans (hu ▸ rfl)
  have hlatch : (advanceCounter u).latch = s.latch := (advanceCounter_latch u).trans (hu ▸ rfl)
  have hactive : active (advanceCounter u) s.dbKey.toNat = active s s.dbKey.toNat :=
    (active_advanceCounter u _).trans (hu ▸ rfl)
  have hpassed (h : 0 ≤ signed32 (nowMsVal (advanceCounter u) - s.dTarget)) :
      step s = .next (debounceCompletion (advanceCounter u)) := by
    rw [hnext.step_eq, countEvent_of_debounce_passed hcfg' hphase' (by rwa [hunit', htarget])]
  refine ⟨advanceCounter u, ?counter, fun hshort => ?waits, fun hdue hact => ?noPress, fun hdue hact => ?press⟩
  case counter =>
    rw [hu, advanceCounter, BitVec.ofNat_toNat]
    rfl
  case waits => rw [hnext.step_eq, countEvent_of_short hcfg' (by rwa [hunit', htarget])]
  case noPress => rw [hpassed hdue, debounceCompletion_of_inactive hkey (hactive.trans hact)]
  case press =>
    refine ⟨_, hpassed hdue, ?_⟩
    rw [debounceCompletion_of_active hkey (hactive.trans hact)]
    refine ⟨?own, fun j hj _ hne => ?other, rfl⟩
    case own => exact bankBit_setBankBit_same _ h1 h32 true
    case other => exact (bankBit_setBankBit_other _ hj h1 hne true).trans (congrArg (bankBit · j) hlatch)

/-- Settles O50: the wait goes on while fewer than 10 milliseconds have passed, whatever the pins do, and c is the number
of COUNT events that pass them. -/
theorem keyPressIsDecidedAfterExactlyCCounts : Obligations.KeyPressIsDecidedAfterExactlyCCounts := by
  intro s w t0 c j k i pins h h1 hK hact hi hexec hc hj
  obtain ⟨hs, hcfg, -⟩ := h.configured
  have hkept := keyState_counts h.idle t0
  simp only [keyState, Prod.mk.injEq] at hkept
  obtain ⟨hidle0, hparams0, hpins0, hlatch0⟩ := hkept
  have hs0 : Inv { counts t0 s with arg0 := k } :=
    inv_congr (inv_counts hs t0) rfl rfl rfl rfl rfl rfl rfl rfl rfl rfl rfl rfl rfl rfl
  have hw : Inv w := inv_exec hs0 (hidle0.trans h.idle) hexec
  have hstart := exec_starts_debounce (i := i) hs0.params ((cfg_counts t0 s).trans hcfg) h1 (hparams0 ▸ hK)
    (by simpa [active, pinOf, hpins0, hparams0] using hact) (by simpa [latchOf, hlatch0] using hi)
  rw [hexec, Host.Outcome.next.injEq] at hstart
  obtain ⟨hphase, hkey, hparams, hfresh, hcounts⟩ :=
    startDebounce_wait (setLatch k.toNat false { counts t0 s with arg0 := k })
  rw [← hstart] at hphase hkey hparams hfresh hcounts
  replace hcounts : debounceCounts w = countsToPass (unitCounts .ms (counts t0 s)) (counts t0 s).cvr.toNat 10 :=
    hcounts
  rw [unitCounts_counts, h.countsToPass_eq .ms t0 (by decide)] at hcounts
  obtain rfl : c = debounceCounts w := hc.trans hcounts.symm
  obtain rfl : w.dbKey = k := hkey
  have hdecided := counts_debounce_decides hw hphase hfresh hj pins
  rw [show w.params = s.params from hparams.trans hparams0] at hdecided
  refine ⟨fun m hm => ?_, hdecided⟩
  obtain ⟨hkept, hlatch⟩ := counts_debounce_waits hw hphase hfresh hm
  exact ⟨(congrArg Prod.fst hkept).trans hphase, hlatch⟩
end

section
/-! SUPPORT. The error codes (60_exceptions R222, R223, R226): the fields of STATUS as numbers, and which issues
end with NOT_CONFIGURED. -/

namespace Sys2Proof.Machine

/-! ## The codes in STATUS -/

theorem errBits_toNat_le (e : ErrCode) : (errBits e).toNat ≤ 8 := by cases e <;> decide

theorem phaseBits_toNat_le (p : Phase) : (phaseBits p).toNat ≤ 2 := by cases p <;> decide

/-! ## NOT_CONFIGURED -/

/-- Whether the command needs CFG = 1: the clock commands do, and a KEY_READ of a valid key (60_exceptions R226). -/
def needsConfigured (s : State) : Instr → Bool
  | .nowMs | .nowUs | .sample | .delayMs | .delayUs => true
  | .keyRead | .keyReadC => validKey s.params s.arg0
  | .init | .encode | .decode => false

theorem needsConfigured_iff (s : State) (i : Instr) :
    needsConfigured s i = true ↔
      i = .nowMs ∨ i = .nowUs ∨ i = .sample ∨ i = .delayMs ∨ i = .delayUs
        ∨ ((i = .keyRead ∨ i = .keyReadC) ∧ 1 ≤ s.arg0.toNat ∧ s.arg0.toNat ≤ s.params.numKeys) := by
  cases i <;> simp [needsConfigured, validKey_iff]

theorem initError_ne_notConfigured (s : State) : initError s ≠ some .notConfigured := by
  unfold initError
  repeat' split
  all_goals simp

@[simp] theorem startWait_err (u : TimeUnit) (n : Word) (ph : Phase) (s : State) : (startWait u n ph s).err = .ok := by
  simp [startWait]

@[simp] theorem samplePin_err (s : State) : (samplePin s).err = .ok := by
  rcases samplePin_cases s with ⟨-, -, e⟩ | ⟨-, -, e⟩ | ⟨-, e⟩ <;> simp [e, startDebounce]

@[simp] theorem pollKey_err (cont : Bool) (s : State) : (pollKey cont s).err = .ok := samplePin_err _

theorem cfg_of_whenConfigured_err {body : State → State} {s : State}
    (h : (whenConfigured body s).err = .notConfigured) (hbody : (body s).err = .ok) : s.cfg = false := by
  rcases whenConfigured_cases body s with ⟨-, e⟩ | ⟨hcfg, -⟩
  · rw [e, hbody] at h
    cases h
  · exact hcfg

/-- A KEY_READ ends with NOT_CONFIGURED only for a valid key while CFG = 0 (43_debounce R206). -/
theorem unconfigured_of_readKey_err {cont : Bool} {s : State} (h : (readKey cont s).err = .notConfigured) :
    s.cfg = false ∧ validKey s.params s.arg0 = true := by
  rcases readKey_cases cont s with ⟨-, e⟩ | ⟨hkey, hcfg, -⟩ | ⟨-, -, e⟩
  · simp [e] at h
  · exact ⟨hcfg, hkey⟩
  · simp [e] at h

theorem readKey_of_not_cfg (cont : Bool) {s : State} (hcfg : s.cfg = false) (hkey : validKey s.params s.arg0 = true) :
    readKey cont s = fail .notConfigured s := by
  rw [readKey, if_pos hkey, whenConfigured_of_not_cfg _ hcfg]

/-- While CFG = 0 a command that needs CFG = 1 fails with NOT_CONFIGURED (60_exceptions R224, R226). -/
theorem exec_of_unconfigured {i : Instr} {s : State} (hcfg : s.cfg = false) (hi : needsConfigured s i = true) :
    exec i s = .next (fail .notConfigured s) := by
  cases i
  case init | encode | decode => cases hi
  case nowMs | nowUs | sample | delayMs | delayUs => exact congrArg _ (whenConfigured_of_not_cfg _ hcfg)
  case keyRead | keyReadC => exact congrArg _ (readKey_of_not_cfg _ hcfg hi)

/-- No other issue ends with NOT_CONFIGURED (60_exceptions R226). -/
theorem unconfigured_of_exec_err {i : Instr} {s t : State} (h : exec i s = .next t) (herr : t.err = .notConfigured) :
    s.cfg = false ∧ needsConfigured s i = true := by
  cases i
  case init =>
    rcases exec_init_cases h with ⟨e, he, rfl⟩ | ⟨-, rfl⟩
    · exact absurd (he.trans (congrArg some herr)) (initError_ne_notConfigured s)
    · cases herr
  all_goals cases h
  case nowMs | nowUs | sample => exact ⟨cfg_of_whenConfigured_err herr rfl, rfl⟩
  case delayMs | delayUs => exact ⟨cfg_of_whenConfigured_err herr (startWait_err ..), rfl⟩
  case encode | decode => cases herr
  case keyRead | keyReadC => exact unconfigured_of_readKey_err herr

end Sys2Proof.Machine
end

section
/-! Statements of 60_exceptions: the codes STATUS can show, and the issues that end with NOT_CONFIGURED. -/

open Sys2Proof Sys2Proof.Machine

/-- Settles O13: STATUS is the sum of its fields, of which ERR is at most 8 and PHASE at most 2. -/
theorem statusNeverShowsUnusedCodes : Obligations.StatusNeverShowsUnusedCodes := by
  intro s
  have hstatus : (readReg .status s).toNat = _ := statusView_toNat s
  have hbusy := Bool.toNat_lt (busy s)
  have hcfg := Bool.toNat_lt s.cfg
  have hphase := phaseBits_toNat_le s.phase
  have herr := errBits_toNat_le s.err
  omega

/-- Settles O28: the issue of a command that needs CFG = 1 fails while CFG = 0, and every other issue leaves another
code in ERR. -/
theorem notConfiguredExactlyForClockCommands : Obligations.NotConfiguredExactlyForClockCommands := by
  intro i s t h
  rw [← needsConfigured_iff]
  have hfails (hu : s.cfg = false ∧ needsConfigured s i = true) : t = fail .notConfigured s :=
    (Host.Outcome.next.inj ((exec_of_unconfigured hu.1 hu.2).symm.trans h)).symm
  exact ⟨⟨unconfigured_of_exec_err h, fun hu => congrArg State.err (hfails hu)⟩,
    fun herr => hfails (unconfigured_of_exec_err h herr)⟩
end

section
/-! SUPPORT. For 70_reset R265, R266 and R281: COUNT events short of a tick, a wait from any of its states to its end,
and the run that goes on until then. -/

namespace Sys2Proof.Machine

/-! ## COUNT events short of a tick -/

/-- Steps that count down from c in a period of R + 1 pass 0 only after the first c. -/
theorem unitsPassed_period_eq_zero_iff {R c : Nat} (hc : c ≤ R) (n : Nat) : unitsPassed (R + 1) c n = 0 ↔ n ≤ c := by
  rw [unitsPassed, Nat.mod_eq_of_lt (by omega), Nat.div_eq_zero_iff_lt (Nat.succ_pos R)]
  omega

section
variable {s : State} (hs : Inv s) (hcfg : s.cfg = true)
include hs hcfg

/-- Until the counter has passed 0, COUNT events take from it and leave ELAPSED (40_clock R131). -/
theorem counts_of_le_cvr {n : Nat} (hn : n ≤ s.cvr.toNat) :
    (counts n s).elapsed = s.elapsed ∧ (counts n s).cvr.toNat + n = s.cvr.toNat := by
  have hle := (hs.configured hcfg).cvr_le
  refine ⟨?_, ?_⟩
  · rw [elapsed_counts hs hcfg, (unitsPassed_period_eq_zero_iff hle n).2 hn, Nat.mul_zero, BitVec.add_zero]
  · rw [cvr_counts hs hcfg, Nat.mod_eq_of_lt (by omega)]
    omega

/-- 2^24 ticks of at most 255 do not bring ELAPSED round, so it is the same only if the counter has not passed 0
(70_reset R266). -/
theorem le_cvr_of_elapsed_counts_eq {n : Nat} (hn : n ≤ (s.reload.toNat + 1) * 2 ^ 24)
    (h : (counts n s).elapsed = s.elapsed) : n ≤ s.cvr.toNat := by
  obtain ⟨-, -, hperiod, -, -, -, -, hle⟩ := hs.configured hcfg
  have hperiod' := s.tickPeriod.isLt
  have hticks : unitsPassed (s.reload.toNat + 1) s.cvr.toNat n ≤ 2 ^ 24 := unitsPassed_le (Nat.succ_pos _) hn
  rw [elapsed_counts hs hcfg, add_eq_left] at h
  rw [← unitsPassed_period_eq_zero_iff hle]
  generalize unitsPassed (s.reload.toNat + 1) s.cvr.toNat n = ticks at *
  have hsmall : s.tickPeriod.toNat * ticks < 2 ^ 32 :=
    (Nat.mul_le_mul (Nat.le_of_lt_succ hperiod') hticks).trans_lt (by decide)
  have hzero : s.tickPeriod.toNat * ticks = 0 := (Nat.mod_eq_of_lt hsmall).symm.trans (congrArg BitVec.toNat h)
  exact (Nat.mul_eq_zero.1 hzero).resolve_left (by omega)

end

/-! ## A wait from any of its states -/

/-- The units from the present reading to the target of the wait (41_delay R153). -/
def unitsLeft (s : State) : Word := s.dTarget - nowVal s.dUnit s

theorem dTarget_eq_add_unitsLeft (s : State) : s.dTarget = nowVal s.dUnit s + unitsLeft s :=
  (add_sub_cancel ..).symm

/-- A wait goes on with 1 to 2^31 units left (41_delay R153, R157). -/
theorem unitsLeft_of_waiting {s : State} (h : waiting s = true) :
    1 ≤ (unitsLeft s).toNat ∧ (unitsLeft s).toNat ≤ 2 ^ 31 := by
  rw [waiting, decide_eq_true_eq, signed32_neg_iff] at h
  unfold unitsLeft
  generalize nowVal s.dUnit s = now at *
  bv_omega

theorem Inv.waiting_of_busy {s : State} (hs : Inv s) (h : s.phase ≠ .idle) : waiting s = true := by
  have hpending := hs.pending
  unfold WaitPending at hpending
  cases hphase : s.phase
  case idle => exact absurd hphase h
  case delay => simpa [hphase] using hpending
  case debounce =>
    simp only [hphase] at hpending
    exact hpending.1

/-- A COUNT writes neither the unit nor the target of a wait, not even where it completes it (10_state R34). -/
theorem countEvent_wait (s : State) : (countEvent s).dUnit = s.dUnit ∧ (countEvent s).dTarget = s.dTarget := by
  rcases countEvent_cases s with ⟨-, he⟩ | ⟨-, he⟩ <;> simp [he]

theorem counts_wait (n : Nat) (s : State) : (counts n s).dUnit = s.dUnit ∧ (counts n s).dTarget = s.dTarget := by
  induction n with
  | zero => exact ⟨rfl, rfl⟩
  | succ n ih =>
    obtain ⟨hunit, htarget⟩ := countEvent_wait (counts n s)
    rw [counts_succ, hunit, htarget]
    exact ih

/-- The COUNT events that the wait in progress still takes: those that pass the units left (41_delay R156). -/
def countsLeft (s : State) : Nat := countsToPass (unitCounts s.dUnit s) s.cvr.toNat (unitsLeft s).toNat

/-! The wait goes on for fewer COUNT events than `countsLeft`, and ends at that many. -/

section
variable {s : State} (hs : Inv s) (hbusy : s.phase ≠ .idle)
include hs hbusy

theorem countsLeft_bounds : 1 ≤ countsLeft s ∧ countsLeft s ≤ unitCounts s.dUnit s * 2 ^ 31 := by
  have hU := (hs.configured (hs.cfg_of_busy hbusy)).unitCounts_pos s.dUnit
  obtain ⟨h1, h2⟩ := unitsLeft_of_waiting (hs.waiting_of_busy hbusy)
  exact ⟨(Nat.le_add_left 1 _).trans (le_countsToPass hU h1 _), (countsToPass_le ..).trans (Nat.mul_le_mul_left _ h2)⟩

theorem counts_busy_of_lt_countsLeft {j : Nat} (hj : j < countsLeft s) : (counts j s).phase ≠ .idle := by
  have hcfg := hs.cfg_of_busy hbusy
  obtain ⟨-, h2⟩ := unitsLeft_of_waiting (hs.waiting_of_busy hbusy)
  have hshort := (lt_countsToPass_iff ((hs.configured hcfg).unitCounts_pos s.dUnit) ..).1 hj
  have hphase : (counts j s).phase = s.phase :=
    congrArg Prod.fst (counts_waits hs hcfg (dTarget_eq_add_unitsLeft s) h2 hshort)
  rwa [hphase]

/-- At the last of them the reading is the target, which no wait in progress allows (41_delay R153). -/
theorem counts_countsLeft_idle : (counts (countsLeft s) s).phase = .idle := by
  have hcfg := hs.cfg_of_busy hbusy
  obtain ⟨h1, -⟩ := unitsLeft_of_waiting (hs.waiting_of_busy hbusy)
  have hreading : nowVal s.dUnit (counts (countsLeft s) s) = s.dTarget := by
    rw [nowVal_counts _ hs hcfg, countsLeft, unitsPassed_countsToPass ((hs.configured hcfg).unitCounts_pos s.dUnit) h1,
      BitVec.ofNat_toNat, BitVec.setWidth_eq, ← dTarget_eq_add_unitsLeft]
  have hpassed : waiting (counts (countsLeft s) s) = false := by
    obtain ⟨hunit, htarget⟩ := counts_wait (countsLeft s) s
    rw [waiting, hunit, htarget, hreading, sub_self]
    decide
  by_contra h
  rw [(inv_counts hs _).waiting_of_busy h] at hpassed
  cases hpassed

end

/-! ## The run of a wait with no line left -/

theorem program_counts (n : Nat) (s : State) : (counts n s).program = s.program := by
  induction n with
  | zero => rfl
  | succ n ih => rw [counts_succ, countEvent_program, ih]

/-- A run with no line left and BUSY goes on with a COUNT event (70_reset R281). -/
theorem countNext_of_busy {s : State} (hnil : s.program = []) (hbusy : s.phase ≠ .idle) : CountNext s s := by
  simp [CountNext, nextTurn, hnil, busy_eq, hbusy]

theorem run_counts_of_busy {s : State} {k : Nat} (hnil : s.program = [])
    (hbusy : ∀ j, j < k → (counts j s).phase ≠ .idle) : Host.Core.run core k s = .next (counts k s) := by
  induction k generalizing s with
  | zero => rfl
  | succ k ih =>
    rw [run_next k (countNext_of_busy hnil (hbusy 0 (Nat.succ_pos k))).step_eq]
    exact ih ((countEvent_program s).trans hnil) fun j hj => hbusy (j + 1) (Nat.succ_lt_succ hj)

/-! ## The example of 70_reset R265 -/

/-- The operands of INIT 1_000_000, 1, 1 in a block after reset. -/
def beforeInit : State :=
  { State.atReset Params.default 0#32 with arg0 := 1000000#32, arg1 := 1#32, arg2 := 1#32 }

/-- Right after the INIT: ELAPSED = 1 and CVR = 0, so that the next COUNT ticks. -/
def beforeTick : State := complete 0#32 0#32 (configureClock beforeInit)

theorem inv_beforeTick : Inv beforeTick := by
  have hs : Inv beforeInit :=
    inv_congr (inv_atReset 0#32 (by decide)) rfl rfl rfl rfl rfl rfl rfl rfl rfl rfl rfl rfl rfl rfl
  exact inv_exec hs rfl (exec_init_of_none (by decide))

end Sys2Proof.Machine
end

section
/-! Statements of 70_reset: the retry loop, the end of a wait that outlasts the program, the initial state, and two
reads that tear. -/

open Sys2Proof Sys2Proof.Machine

/-- Settles O37: ELAPSED is the same only if the counter, which stood at n or more, has not passed 0. -/
theorem retryLoopDetectsEveryTick : Obligations.RetryLoopDetectsEveryTick := fun _ _ _ hs hcfg hn hj h =>
  counts_of_le_cvr hs hcfg (hj.trans (le_cvr_of_elapsed_counts_eq hs hcfg hn.le h))

/-- Settles O41: the run ends with the COUNT event that passes the last unit left of the wait. -/
theorem runningCounterEndsEveryWait : Obligations.RunningCounterEndsEveryWait := by
  intro s hs hnil hbusy
  obtain ⟨h1, hmax⟩ := countsLeft_bounds hs hbusy
  have hwaits {j : Nat} (hj : j < countsLeft s) := counts_busy_of_lt_countsLeft hs hbusy hj
  exact ⟨countsLeft s, h1, hmax, run_counts_of_busy hnil fun _ => hwaits,
    ⟨(program_counts ..).trans hnil, counts_countsLeft_idle hs hbusy⟩, fun _ hj ⟨_, hidle⟩ => hwaits hj hidle⟩

/-- Settles O21: the initial state is what RESET writes, with the default parameters. -/
theorem initialStateReadsAsAfterReset : Obligations.InitialStateReadsAsAfterReset :=
  ⟨statusView_resetEvent State.reset, BitVec.zero_and, rfl, paramView_default, rfl, rfl, rfl, rfl, rfl⟩

/-- Settles O36: the COUNT after ELAPSED = 1, CVR = 0 ticks to ELAPSED = 2, CVR = 999. -/
theorem twoSeparateReadsCanTear : Obligations.TwoSeparateReadsCanTear :=
  ⟨beforeTick, inv_beforeTick, rfl, rfl, by decide, by decide⟩
end
